-- ==== Sys2Proof/Word.lean ====
section
/-! DEFINITION. The widths of the block: bytes, the 16-bit CRC, 32-bit operands, results and times, 40-bit command words
(00_scope.md R5, R8; 30_encoding.md R70). Every value is an unsigned integer of its width (R8). -/

namespace Sys2Proof

/-- A byte, 0 to 255 (R8). -/
abbrev Byte := BitVec 8

/-- The width of the CRC register, `CW` = 16 (R5). -/
abbrev Half := BitVec 16

/-- The operand field, the result port and every time value, `TW` = 32 (R5, R70). -/
abbrev Word := BitVec 32

/-- A command word, `CMDW` = 40 (R5, R70). -/
abbrev CmdWord := BitVec 40

end Sys2Proof
end

