-- ==== Sys2Proof/Syntax.lean ====
section
/-! DEFINITION. The fifteen commands (30_encoding.md R74), one constructor each, with the operands of their formats
(R71 format Z: none; R72 format B: a byte; R73 format W: a word; R75 format R: a register index). -/

namespace Sys2Proof

/-- A command of the block, its operands taken out of the command word (R76). -/
inductive Instr where
  | nop
  | reset
  | regRd (idx : Byte)
  | encPush (b : Byte)
  | encEnd
  | encDelim
  | decPush (e : Byte)
  | crcClr
  | crcUpd (b : Byte)
  | crcRd
  | frmPush (b : Byte)
  | frmEnd
  | iwCfg (w : Word)
  | iwPoll
  | iwWait
deriving DecidableEq, Repr

/-- The mnemonic of the command's row in the opcode map (R74). -/
def Instr.mnemonic : Instr → String
  | .nop => "NOP"
  | .reset => "RESET"
  | .regRd _ => "REG.RD"
  | .encPush _ => "ENC.PUSH"
  | .encEnd => "ENC.END"
  | .encDelim => "ENC.DELIM"
  | .decPush _ => "DEC.PUSH"
  | .crcClr => "CRC.CLR"
  | .crcUpd _ => "CRC.UPD"
  | .crcRd => "CRC.RD"
  | .frmPush _ => "FRM.PUSH"
  | .frmEnd => "FRM.END"
  | .iwCfg _ => "IW.CFG"
  | .iwPoll => "IW.POLL"
  | .iwWait => "IW.WAIT"

end Sys2Proof
end

