-- ==== Sys2Proof/WellFormed.lean ====
section
/-! DEFINITION. Which commands have an encoding: every operand of formats B and W is well formed (30_encoding.md R72, R73);
the register index of REG.RD must be 0 to 6 (R75). -/

namespace Sys2Proof

/-- The command has an encoding. -/
def Instr.wellFormed : Instr → Bool
  | .nop => true
  | .reset => true
  | .regRd idx => idx.toNat ≤ 6
  | .encPush _ => true
  | .encEnd => true
  | .encDelim => true
  | .decPush _ => true
  | .crcClr => true
  | .crcUpd _ => true
  | .crcRd => true
  | .frmPush _ => true
  | .frmEnd => true
  | .iwCfg _ => true
  | .iwPoll => true
  | .iwWait => true

end Sys2Proof
end

