-- ==== Sys2Proof/Decode.lean ====
section
/-! DEFINITION. Decoding a 40-bit command word (30_encoding.md R70 to R77), total, each illegal word rejected by the clause of
R77 it falls under; the encoder after it; and the opcode map of R74 as data. -/

namespace Sys2Proof

/-- Why a word is illegal: the clauses of R77. Which name a word under two clauses gets is DESIGN CHOICE in log entry 12. -/
inductive Illegal where
  /-- (a) `op` is not one of the fifteen values of R74. -/
  | badOpcode
  /-- (b) format Z with a non-zero `arg`. -/
  | operandNotZero
  /-- (c) format B or R with a non-zero `arg[31:8]`. -/
  | highBitsNotZero
  /-- (d) REG.RD with an index above 6. -/
  | badIndex
deriving DecidableEq, Repr

/-- What decoding a word gives. -/
inductive Decoded where
  | ok (i : Instr)
  | illegal (r : Illegal)
deriving DecidableEq, Repr

/-- Bits 39:32 (R70). -/
def opField (w : CmdWord) : Byte := w.extractLsb' 32 8

/-- Bits 31:0 (R70). -/
def argField (w : CmdWord) : Word := w.extractLsb' 0 32

/-- `arg[7:0]`: the byte operand and the index operand (R76). -/
def byteOperand (arg : Word) : Byte := arg.extractLsb' 0 8

/-- `arg[31:8]`, zero in formats B and R (R72, R75). -/
def reservedBits (arg : Word) : BitVec 24 := arg.extractLsb' 8 24

/-- Format Z (R71). -/
def formatZ (i : Instr) (arg : Word) : Decoded :=
  if arg = 0#32 then .ok i else .illegal .operandNotZero

/-- Format B (R72). -/
def formatB (f : Byte → Instr) (arg : Word) : Decoded :=
  if reservedBits arg = 0#24 then .ok (f (byteOperand arg)) else .illegal .highBitsNotZero

/-- Format R (R75): format B and the range check on the index. -/
def formatR (f : Byte → Instr) (arg : Word) : Decoded :=
  if reservedBits arg = 0#24 then
    if (byteOperand arg).toNat ≤ 6 then .ok (f (byteOperand arg)) else .illegal .badIndex
  else .illegal .highBitsNotZero

/-- Format W (R73): every operand is well formed. -/
def formatW (f : Word → Instr) (arg : Word) : Decoded := .ok (f arg)

/-- The opcode map (R74); every other `op` is illegal (R77). -/
def decodeFields (op : Byte) (arg : Word) : Decoded :=
  match op with
  | 0x00#8 => formatZ .nop arg
  | 0x01#8 => formatZ .reset arg
  | 0x02#8 => formatR .regRd arg
  | 0x10#8 => formatB .encPush arg
  | 0x11#8 => formatZ .encEnd arg
  | 0x12#8 => formatZ .encDelim arg
  | 0x20#8 => formatB .decPush arg
  | 0x30#8 => formatZ .crcClr arg
  | 0x31#8 => formatB .crcUpd arg
  | 0x32#8 => formatZ .crcRd arg
  | 0x40#8 => formatB .frmPush arg
  | 0x41#8 => formatZ .frmEnd arg
  | 0x50#8 => formatW .iwCfg arg
  | 0x51#8 => formatZ .iwPoll arg
  | 0x52#8 => formatZ .iwWait arg
  | _ => .illegal .badOpcode

/-- Decode a command word. -/
def decode (w : CmdWord) : Decoded := decodeFields (opField w) (argField w)

/-- `op[7:0] || arg[31:0]` (R70). -/
def commandWord (op : Byte) (arg : Word) : CmdWord := op ++ arg

/-- The `op` of a command (R74). -/
def Instr.opcode : Instr → Byte
  | .nop => 0x00#8
  | .reset => 0x01#8
  | .regRd _ => 0x02#8
  | .encPush _ => 0x10#8
  | .encEnd => 0x11#8
  | .encDelim => 0x12#8
  | .decPush _ => 0x20#8
  | .crcClr => 0x30#8
  | .crcUpd _ => 0x31#8
  | .crcRd => 0x32#8
  | .frmPush _ => 0x40#8
  | .frmEnd => 0x41#8
  | .iwCfg _ => 0x50#8
  | .iwPoll => 0x51#8
  | .iwWait => 0x52#8

/-- The operand field of a command: zero, a byte with zeros above it, or a word (R71, R72, R73, R75). -/
def Instr.operand : Instr → Word
  | .nop => 0#32
  | .reset => 0#32
  | .regRd idx => idx.setWidth 32
  | .encPush b => b.setWidth 32
  | .encEnd => 0#32
  | .encDelim => 0#32
  | .decPush e => e.setWidth 32
  | .crcClr => 0#32
  | .crcUpd b => b.setWidth 32
  | .crcRd => 0#32
  | .frmPush b => b.setWidth 32
  | .frmEnd => 0#32
  | .iwCfg w => w
  | .iwPoll => 0#32
  | .iwWait => 0#32

/-- The command word of a command. -/
def encode (i : Instr) : CmdWord := commandWord i.opcode i.operand

/-- A row of the opcode map: a word `c` selects the row when `(c and mask) == matched` (R74). -/
structure OpcodeRow where
  mnemonic : String
  matched : CmdWord
  mask : CmdWord
deriving DecidableEq, Repr

/-- The opcode map of R74 as data. -/
def opcodeTable : List OpcodeRow :=
  [⟨"NOP", 0x0000000000#40, 0xFFFFFFFFFF#40⟩, ⟨"RESET", 0x0100000000#40, 0xFFFFFFFFFF#40⟩, ⟨"REG.RD", 0x0200000000#40, 0xFFFFFFFF00#40⟩,
   ⟨"ENC.PUSH", 0x1000000000#40, 0xFFFFFFFF00#40⟩, ⟨"ENC.END", 0x1100000000#40, 0xFFFFFFFFFF#40⟩] ++
  [⟨"ENC.DELIM", 0x1200000000#40, 0xFFFFFFFFFF#40⟩, ⟨"DEC.PUSH", 0x2000000000#40, 0xFFFFFFFF00#40⟩,
   ⟨"CRC.CLR", 0x3000000000#40, 0xFFFFFFFFFF#40⟩, ⟨"CRC.UPD", 0x3100000000#40, 0xFFFFFFFF00#40⟩, ⟨"CRC.RD", 0x3200000000#40, 0xFFFFFFFFFF#40⟩] ++
  [⟨"FRM.PUSH", 0x4000000000#40, 0xFFFFFFFF00#40⟩, ⟨"FRM.END", 0x4100000000#40, 0xFFFFFFFFFF#40⟩,
   ⟨"IW.CFG", 0x5000000000#40, 0xFF00000000#40⟩, ⟨"IW.POLL", 0x5100000000#40, 0xFFFFFFFFFF#40⟩, ⟨"IW.WAIT", 0x5200000000#40, 0xFFFFFFFFFF#40⟩]

/-- The word selects the row: mask and match, and for REG.RD the range check on the index (R74, R75). -/
def OpcodeRow.selects (r : OpcodeRow) (w : CmdWord) : Bool :=
  (w &&& r.mask == r.matched) && (r.mnemonic != "REG.RD" || (w.extractLsb' 0 8).toNat ≤ 6)

/-- What the decoder reads from a word given by its bits, bit 0 the least significant of the 40 (R8). -/
def decodeTableWord (nbits w : Nat) : Option Instr :=
  let v := w % 2 ^ nbits
  if v < 2 ^ 40 then
    match decode (BitVec.ofNat 40 v) with
    | .ok i => some i
    | .illegal _ => none
  else none

end Sys2Proof
end

