-- ==== Sys2Proof/Config.lean ====
section
/-! DEFINITION. What the spec leaves open: the parameter it marks OPEN (00_scope.md R5), carried by the machine as plain
data, and the free value that stands for a sample of the microsecond clock (20_memory.md R57). -/

namespace Sys2Proof

/-- The parameters a model takes as arguments (R5: "A model takes the ones marked OPEN as arguments"). `cobsTrail254` is
`P_COBS_TRAIL254`: whether ENC.END after a full block with nothing after it still emits a code byte 0x01
(92_eei_decisions.md D7, DESIGN CHOICE in log entry 4). -/
structure Params where
  cobsTrail254 : Bool
deriving DecidableEq, Repr

/-- "OPEN, default 0 (omit)" (R5). -/
def Params.default : Params := { cobsTrail254 := false }

/-- The value of a sample of `time_us` that State does not list: a free value, one for each number of earlier such draws.
Nothing is known of it. Every sequence of 32-bit samples meets the contract of R57 (a true time may advance by any amount
between two samples), so no constraint is left to state (93_implementation_defined.md U2, DESIGN CHOICE in log entry 2). -/
opaque Config.timeSample : Nat → Word

end Sys2Proof
end

