-- ==== Sys2Proof/Machine/State.lean ====
section
/-! DEFINITION. The state of the block (10_state.md), with the step's outputs, the environment's inputs and the open parameter
held as plain data; the reasons a step can stop; and the state after reset (R44). -/

namespace Sys2Proof.Machine

/-- The status a frame ends with on `rx`: `OK` (0), `EMPTY` (1), `TRUNC` (2) (R38, R104). -/
inductive FrameStatus where
  | ok
  | empty
  | trunc
deriving DecidableEq, Repr

/-- An item of the stream `rx`: `byte(b)` or `end(st)` (R38). -/
inductive RxItem where
  | byte (b : Byte)
  | endFrame (st : FrameStatus)
deriving DecidableEq, Repr

/-- The four error conditions (60_exceptions.md R155). -/
inductive Err where
  /-- An illegal command word (R33, R77). -/
  | ill
  /-- IW.CFG with operand 0 (R34, R133). -/
  | iwcfg0
  /-- IW.POLL or IW.WAIT with `iw_interval == 0` (R35, R134, R136). -/
  | iwuncfg
  /-- A delimiter inside a block (R36, R102): recorded by a command that completes. -/
  | dectrunc
deriving DecidableEq, Repr

/-- The three outcomes of a step (00_scope.md R7). -/
inductive CmdOutcome where
  | done
  | error (e : Err)
  | held
deriving DecidableEq, Repr

/-- The state. -/
structure State where
  /-- R22 -/
  crc : Half
  /-- `enc_buf`, R23; `enc_cnt` is its length (R24) -/
  encBuf : List Byte
  /-- `enc_full`, R25 -/
  encFull : Bool
  /-- `dec_rem`, R26 -/
  decRem : Byte
  /-- `dec_zero`, R27 -/
  decZero : Bool
  /-- `dec_mid`, R28 -/
  decMid : Bool
  /-- `iw_interval`, R29 -/
  iwInterval : Word
  /-- `iw_deadline`, R30 -/
  iwDeadline : Word
  /-- `iw_now`, R31 -/
  iwNow : Word
  /-- `STATUS`, R32: bit 0 ILL, bit 1 IWCFG0, bit 2 IWUNCFG, bit 3 DECTRUNC -/
  status : BitVec 4
  /-- the history of the port `tx` since reset, R37 -/
  tx : List Byte
  /-- the history of the port `rx` since reset, R38 -/
  rx : List RxItem
  /-- what the latest command drove on the port `res`, R39, R53 (DESIGN CHOICE in log entry 3) -/
  res : Option Word
  /-- the outcome of the latest command, R7 (DESIGN CHOICE in log entry 3) -/
  outcome : CmdOutcome
  /-- the host's command words, the head presented on the port `cmd`, R52, R60 (DESIGN CHOICE in log entry 1) -/
  cmds : List CmdWord
  /-- the samples the port `time_us` shows next, R57 (DESIGN CHOICE in log entry 2) -/
  timeIn : List Word
  /-- how many samples were free values (DESIGN CHOICE in log entry 2) -/
  draws : Nat
  /-- the open parameter, R5 (DESIGN CHOICE in log entry 4) -/
  params : Params
deriving DecidableEq, Repr

/-- The block has no trap and no fatal condition ("Nothing in this core is fatal; there is no exception/panic path",
60_exceptions.md): no step faults, so there is no constructor (DEDUCED in log entry 6). -/
inductive Fault where
deriving DecidableEq, Repr

/-- Why a step has no meaning. -/
inductive Refusal where
  /-- An instruction whose meaning is not written: raised by an arm of `exec` alone, by no arm now (safe). -/
  | notModelled (mnemonic : String)
deriving DecidableEq, Repr

/-- What a step answers. -/
abbrev StepResult := Host.Outcome State Fault Refusal

/-- The state after power-on reset (R44, R176). `outcome`, `cmds`, `timeIn`, `draws` are the model's own fields
(DESIGN CHOICE in log entries 1, 2, 3); the parameter has the spec's default (R5, DESIGN CHOICE in log entry 4). -/
def State.reset : State where
  crc := 0x0000#16
  encBuf := []
  encFull := false
  decRem := 0#8
  decZero := false
  decMid := false
  iwInterval := 0#32
  iwDeadline := 0#32
  iwNow := 0#32
  status := 0#4
  tx := []
  rx := []
  res := none
  outcome := .done
  cmds := []
  timeIn := []
  draws := 0
  params := Params.default

end Sys2Proof.Machine
end

