-- ==== Sys2Proof/Machine/Flags.lean ====
section
/-! DEFINITION. The flags of the block: the four sticky STATUS bits (10_state.md R32 to R36, 60_exceptions.md R155). There are
no condition codes (R41). -/

namespace Sys2Proof.Machine

/-- The code of a condition is its bit number in STATUS (R155). -/
def errCode : Err → Nat
  | .ill => 0
  | .iwcfg0 => 1
  | .iwuncfg => 2
  | .dectrunc => 3

/-- STATUS with the bit of one condition set; the others as they were, and the bit stays 1 if it was 1 (R32, R156). -/
def setStatus (e : Err) (v : BitVec 4) : BitVec 4 := v ||| (1#4 <<< errCode e)

/-- The bit of one condition. -/
def statusBit (e : Err) (v : BitVec 4) : Bool := v.getLsbD (errCode e)

end Sys2Proof.Machine
end

