-- ==== Sys2Proof/Machine/Ops.lean ====
section
/-! DEFINITION. The primitives of the rules' pseudocode (00_scope.md R9) as operations on State, each written once: what leaves
on a stream, a sample of the clock, the result port, the three outcomes of a step, the error outcome, and the host's next
command. -/

namespace Sys2Proof.Machine

/-- `TxEmit(s)`: append bytes to `tx` (R9, R37, R54). -/
def State.txEmit (bs : List Byte) (s : State) : State := { s with tx := s.tx ++ bs }

/-- Append an item to `rx` (R38, R56). -/
def State.rxEmit (item : RxItem) (s : State) : State := { s with rx := s.rx ++ [item] }

/-- `RxByte(b)` (R9). -/
def State.rxByte (b : Byte) (s : State) : State := s.rxEmit (.byte b)

/-- `RxEnd(st)` (R9). -/
def State.rxEnd (st : FrameStatus) (s : State) : State := s.rxEmit (.endFrame st)

/-- Set the sticky bit of a condition (R32). -/
def State.setErr (e : Err) (s : State) : State := { s with status := setStatus e s.status }

/-- The value `TimeSample()` returns: the next listed sample, or a free value when none is listed (R9, R57, DESIGN CHOICE in
log entry 2). -/
def State.nextSample (s : State) : Word := s.timeIn.headD (Config.timeSample s.draws)

/-- The environment after a sample: the listed sample is used up, or the draw is counted. -/
def State.takeSample (s : State) : State :=
  { s with timeIn := s.timeIn.tail, draws := if s.timeIn.isEmpty then s.draws + 1 else s.draws }

/-- How a command leaves the result port and its outcome (R7, R39, DESIGN CHOICE in log entry 3). -/
def State.finish (o : CmdOutcome) (r : Option Word) (s : State) : State := { s with res := r, outcome := o }

/-- The outcome *done* without a result (R7). -/
def State.done (s : State) : StepResult := .next (s.finish .done none)

/-- The outcome *done* with `Result(v)` (R9, R39). -/
def State.result (v : Word) (s : State) : StepResult := .next (s.finish .done (some v))

/-- The outcome *held*, of IW.WAIT alone (R7, R136). -/
def State.hold (s : State) : StepResult := .next (s.finish .held none)

/-- `raise Err(NAME)`: the error outcome. The bit is set and nothing else of the block changes: no stream output, no sample,
no result (R9, R156). It is what stands in the place of taking an exception; there is no return from it (R158, R159). -/
def State.raise (e : Err) (s : State) : StepResult := .next ((s.setErr e).finish (.error e) none)

/-- The host presents its next word when the command has completed; a held command stays at the port (R6, R60, R136). -/
def State.advance (s : State) : State :=
  if s.outcome = .held then s else { s with cmds := s.cmds.tail }

/-- `State.advance` on what a command answers. -/
def retire : StepResult → StepResult
  | .next s => .next s.advance
  | .fault r => .fault r
  | .refused r => .refused r

end Sys2Proof.Machine
end

