-- ==== Sys2Proof/Machine/Operands.lean ====
section
/-! DEFINITION. The one space a command names by an operand: the register views of REG.RD (10_state.md R40, 20_memory.md R51),
and the items of `rx` as 10-bit values (20_memory.md R56). The operand fields themselves are taken out in Decode (R76). -/

namespace Sys2Proof.Machine

/-- `enc_cnt`: always the length of `enc_buf` (R24, DESIGN CHOICE in log entry 8). -/
def State.encCnt (s : State) : Byte := BitVec.ofNat 8 s.encBuf.length

/-- REG[2] = ENCST: [7:0] `enc_cnt`, [8] `enc_full`, [31:9] zero (R40). -/
def State.encst (s : State) : Word := (0#23 ++ BitVec.ofBool s.encFull) ++ s.encCnt

/-- REG[3] = DECST: [7:0] `dec_rem`, [8] `dec_zero`, [9] `dec_mid`, [31:10] zero (R40). -/
def State.decst (s : State) : Word := ((0#22 ++ BitVec.ofBool s.decMid) ++ BitVec.ofBool s.decZero) ++ s.decRem

/-- `REG[i]`, 32 bits; indexes 7 to 255 are reserved and have none (R40). -/
def State.regView (idx : Byte) (s : State) : Option Word :=
  match idx with
  | 0#8 => some (s.status.setWidth 32)
  | 1#8 => some (s.crc.setWidth 32)
  | 2#8 => some s.encst
  | 3#8 => some s.decst
  | 4#8 => some s.iwInterval
  | 5#8 => some s.iwDeadline
  | 6#8 => some s.iwNow
  | _ => none

/-- The number of a frame status (R38, R104). -/
def frameStatusCode : FrameStatus → Byte
  | .ok => 0
  | .empty => 1
  | .trunc => 2

/-- An item of `rx` as the 10-bit value `kind[1:0] || data[7:0]` (R56). -/
def rxItemWord : RxItem → BitVec 10
  | .byte b => 1#2 ++ b
  | .endFrame st => 2#2 ++ frameStatusCode st

end Sys2Proof.Machine
end

