-- ==== Sys2Proof/Machine/Dec.lean ====
section
/-! DEFINITION. The COBS decoding function (41_cobs_decoder.md R101), the command DEC.PUSH (R102), and what a consumer of `rx`
takes from it (R104, 70_reset_and_hazards.md R186). -/

namespace Sys2Proof.Machine

/-- The variables `out`, `rem`, `zero` of the loop of R101. -/
structure DecLoop where
  out : List Byte
  rem : Byte
  zero : Bool
deriving DecidableEq, Repr

/-- The body of the loop of R101. -/
def decLoopStep (v : DecLoop) (e : Byte) : DecLoop :=
  if v.rem = 0#8 then
    { out := if v.zero then v.out ++ [0x00#8] else v.out, rem := e - 1#8, zero := e != 0xFF#8 }
  else
    { v with out := v.out ++ [e], rem := v.rem - 1#8 }

/-- The whole loop of R101. -/
def decLoop (x : List Byte) : DecLoop := x.foldl decLoopStep { out := [], rem := 0#8, zero := false }

/-- `cobs_decode(E)`, for a sequence of non-zero bytes (R101). That it runs the same loop on a sequence with a zero byte, where R101
says it is not defined, is DESIGN CHOICE in log entry 14. -/
def cobsDecode (x : List Byte) : List Byte × FrameStatus :=
  let v := decLoop x
  (v.out, if x.isEmpty then .empty else if v.rem ≠ 0#8 then .trunc else .ok)

/-- The decoder's registers as they are between frames. -/
def decIdled (s : State) : State := { s with decRem := 0#8, decZero := false, decMid := false }

/-- The delimiter branch of DEC.PUSH: the frame ends and the decoder is idle (R102). -/
def decDelimiter (s : State) : State :=
  if s.decMid = false then decIdled (s.rxEnd .empty)
  else if s.decRem ≠ 0#8 then decIdled ((s.rxEnd .trunc).setErr .dectrunc)
  else decIdled (s.rxEnd .ok)

/-- The decoder's registers as a code byte sets them. -/
def decBegin (e : Byte) (s : State) : State := { s with decRem := e - 1#8, decZero := e != 0xFF#8, decMid := true }

/-- The code byte branch of DEC.PUSH: the zero owed by the previous block leaves first (R102). -/
def decCode (e : Byte) (s : State) : State :=
  if s.decZero then decBegin e (s.rxByte 0x00#8) else decBegin e s

/-- The data byte branch of DEC.PUSH (R102). -/
def decData (e : Byte) (s : State) : State :=
  { s.rxByte e with decRem := s.decRem - 1#8 }

/-- The state change of DEC.PUSH (R102). -/
def decPush (e : Byte) (s : State) : State :=
  if e = 0x00#8 then decDelimiter s
  else if s.decRem = 0#8 then decCode e s
  else decData e s

/-- DEC.PUSH (R102). -/
def execDecPush (e : Byte) (s : State) : StepResult := (decPush e s).done

/-- The messages a consumer takes from `rx`: the `byte` items since the previous `end` item are one message at `end(OK)` and
are dropped at `end(TRUNC)` and `end(EMPTY)` (R104, R186). `cur` holds the bytes since the previous `end`. -/
def rxMessagesFrom (cur : List Byte) : List RxItem → List (List Byte)
  | [] => []
  | .byte b :: rest => rxMessagesFrom (cur ++ [b]) rest
  | .endFrame .ok :: rest => cur :: rxMessagesFrom [] rest
  | .endFrame .empty :: rest => rxMessagesFrom [] rest
  | .endFrame .trunc :: rest => rxMessagesFrom [] rest

/-- The messages of a history of `rx` from reset (R104). -/
def rxMessages (items : List RxItem) : List (List Byte) := rxMessagesFrom [] items

end Sys2Proof.Machine
end

