-- ==== Sys2Proof/Machine/Crc.lean ====
section
/-! DEFINITION. The CRC-16 function (42_crc16.md R110, R111), its table form (R113), and the commands CRC.CLR, CRC.UPD and
CRC.RD (R114 to R116). -/

namespace Sys2Proof.Machine

/-- `POLY`: the generator polynomial without its x^16 term (R5, R110). -/
@[simp] def crcPoly : Half := 0x011B#16

/-- `CRC_INIT` (R5, R111). -/
@[simp] def crcInit : Half := 0x0000#16

/-- One pass of the loop of R110. -/
def crcShift (c : Half) : Half := if c.getLsbD 15 then (c <<< 1) ^^^ crcPoly else c <<< 1

/-- The loop of R110: so many passes. -/
def crcShifts : Nat → Half → Half
  | 0, c => c
  | n + 1, c => crcShifts n (crcShift c)

/-- `crc16_update(c, b)`: the byte enters at the top of the register, then eight passes (R110). -/
def crc16Update (c : Half) (b : Byte) : Half := crcShifts 8 (c ^^^ (b.setWidth 16 <<< 8))

/-- `crc16(X)`: from the initial value over the bytes first to last, no final XOR (R111, R112). -/
def crc16 (x : List Byte) : Half := x.foldl crc16Update crcInit

/-- `crc[15:8]`, the byte appended first (R58, R120). -/
def crcHigh (c : Half) : Byte := c.extractLsb' 8 8

/-- `crc[7:0]`, the byte appended second (R58, R120). -/
def crcLow (c : Half) : Byte := c.extractLsb' 0 8

/-- Entries 0 to 63 of the table of R113. -/
def crcTable0 : List Half :=
  [0x0000, 0x011B, 0x0236, 0x032D, 0x046C, 0x0577, 0x065A, 0x0741,
   0x08D8, 0x09C3, 0x0AEE, 0x0BF5, 0x0CB4, 0x0DAF, 0x0E82, 0x0F99,
   0x11B0, 0x10AB, 0x1386, 0x129D, 0x15DC, 0x14C7, 0x17EA, 0x16F1,
   0x1968, 0x1873, 0x1B5E, 0x1A45, 0x1D04, 0x1C1F, 0x1F32, 0x1E29,
   0x2360, 0x227B, 0x2156, 0x204D, 0x270C, 0x2617, 0x253A, 0x2421,
   0x2BB8, 0x2AA3, 0x298E, 0x2895, 0x2FD4, 0x2ECF, 0x2DE2, 0x2CF9,
   0x32D0, 0x33CB, 0x30E6, 0x31FD, 0x36BC, 0x37A7, 0x348A, 0x3591,
   0x3A08, 0x3B13, 0x383E, 0x3925, 0x3E64, 0x3F7F, 0x3C52, 0x3D49]

/-- Entries 64 to 127 of the table of R113. -/
def crcTable1 : List Half :=
  [0x46C0, 0x47DB, 0x44F6, 0x45ED, 0x42AC, 0x43B7, 0x409A, 0x4181,
   0x4E18, 0x4F03, 0x4C2E, 0x4D35, 0x4A74, 0x4B6F, 0x4842, 0x4959,
   0x5770, 0x566B, 0x5546, 0x545D, 0x531C, 0x5207, 0x512A, 0x5031,
   0x5FA8, 0x5EB3, 0x5D9E, 0x5C85, 0x5BC4, 0x5ADF, 0x59F2, 0x58E9,
   0x65A0, 0x64BB, 0x6796, 0x668D, 0x61CC, 0x60D7, 0x63FA, 0x62E1,
   0x6D78, 0x6C63, 0x6F4E, 0x6E55, 0x6914, 0x680F, 0x6B22, 0x6A39,
   0x7410, 0x750B, 0x7626, 0x773D, 0x707C, 0x7167, 0x724A, 0x7351,
   0x7CC8, 0x7DD3, 0x7EFE, 0x7FE5, 0x78A4, 0x79BF, 0x7A92, 0x7B89]

/-- Entries 128 to 191 of the table of R113. -/
def crcTable2 : List Half :=
  [0x8D80, 0x8C9B, 0x8FB6, 0x8EAD, 0x89EC, 0x88F7, 0x8BDA, 0x8AC1,
   0x8558, 0x8443, 0x876E, 0x8675, 0x8134, 0x802F, 0x8302, 0x8219,
   0x9C30, 0x9D2B, 0x9E06, 0x9F1D, 0x985C, 0x9947, 0x9A6A, 0x9B71,
   0x94E8, 0x95F3, 0x96DE, 0x97C5, 0x9084, 0x919F, 0x92B2, 0x93A9,
   0xAEE0, 0xAFFB, 0xACD6, 0xADCD, 0xAA8C, 0xAB97, 0xA8BA, 0xA9A1,
   0xA638, 0xA723, 0xA40E, 0xA515, 0xA254, 0xA34F, 0xA062, 0xA179,
   0xBF50, 0xBE4B, 0xBD66, 0xBC7D, 0xBB3C, 0xBA27, 0xB90A, 0xB811,
   0xB788, 0xB693, 0xB5BE, 0xB4A5, 0xB3E4, 0xB2FF, 0xB1D2, 0xB0C9]

/-- Entries 192 to 255 of the table of R113. -/
def crcTable3 : List Half :=
  [0xCB40, 0xCA5B, 0xC976, 0xC86D, 0xCF2C, 0xCE37, 0xCD1A, 0xCC01,
   0xC398, 0xC283, 0xC1AE, 0xC0B5, 0xC7F4, 0xC6EF, 0xC5C2, 0xC4D9,
   0xDAF0, 0xDBEB, 0xD8C6, 0xD9DD, 0xDE9C, 0xDF87, 0xDCAA, 0xDDB1,
   0xD228, 0xD333, 0xD01E, 0xD105, 0xD644, 0xD75F, 0xD472, 0xD569,
   0xE820, 0xE93B, 0xEA16, 0xEB0D, 0xEC4C, 0xED57, 0xEE7A, 0xEF61,
   0xE0F8, 0xE1E3, 0xE2CE, 0xE3D5, 0xE494, 0xE58F, 0xE6A2, 0xE7B9,
   0xF990, 0xF88B, 0xFBA6, 0xFABD, 0xFDFC, 0xFCE7, 0xFFCA, 0xFED1,
   0xF148, 0xF053, 0xF37E, 0xF265, 0xF524, 0xF43F, 0xF712, 0xF609]

/-- The 256 entries of R113, `T[0]` first. -/
def crcTable : List Half := crcTable0 ++ crcTable1 ++ crcTable2 ++ crcTable3

/-- The table form of the update: one look-up for the eight passes (R113). -/
def crc16TableUpdate (c : Half) (b : Byte) : Half :=
  (c <<< 8) ^^^ crcTable.getD (((c >>> 8) ^^^ b.setWidth 16).toNat) 0

/-- The state change of CRC.CLR (R114). -/
def crcClr (s : State) : State := { s with crc := crcInit }

/-- The state change of CRC.UPD (R115). -/
def crcUpd (b : Byte) (s : State) : State := { s with crc := crc16Update s.crc b }

/-- CRC.CLR (R114). -/
def execCrcClr (s : State) : StepResult := (crcClr s).done

/-- CRC.UPD (R115). -/
def execCrcUpd (b : Byte) (s : State) : StepResult := (crcUpd b s).done

/-- CRC.RD (R116). -/
def execCrcRd (s : State) : StepResult := s.result (s.crc.setWidth 32)

end Sys2Proof.Machine
end

