-- ==== Sys2Proof/Machine/Enc.lean ====
section
/-! DEFINITION. The COBS format (40_cobs_encoder.md R90), the encoding function (R91) and the commands ENC.PUSH, ENC.END and
ENC.DELIM (R92 to R94). -/

namespace Sys2Proof.Machine

/-- `BLK`: the greatest number of data bytes in one block (R5, R90). -/
@[simp] def blockLimit : Nat := 254

/-- `DELIM` (R5). -/
@[simp] def delimiter : Byte := 0x00#8

/-- A block of the format: a code byte and its data bytes (R90). -/
structure CobsBlock where
  code : Byte
  data : List Byte
deriving DecidableEq, Repr

/-- A block is a code byte 0x01 to 0xFF and exactly `code - 1` non-zero data bytes (R90). -/
def wellFormedBlock (b : CobsBlock) : Bool :=
  b.data.length + 1 == b.code.toNat && b.data.all (· != 0x00#8)

/-- The bytes of a sequence of blocks. -/
def blocksBytes (bs : List CobsBlock) : List Byte := bs.flatMap fun b => b.code :: b.data

/-- The message a sequence of blocks stands for: the data of each, then a zero if its code is not 0xFF and it is not the last
(R90). That it has a value for blocks that are not well formed and for no block at all is DESIGN CHOICE in log entry 14. -/
def blocksMessage : List CobsBlock → List Byte
  | [] => []
  | b :: rest => b.data ++ (if b.code != 0xFF#8 && !rest.isEmpty then [0x00#8] else []) ++ blocksMessage rest

/-- A block as it leaves: its code byte `len + 1`, then its data (R91, R92). -/
def closedBlock (data : List Byte) : List Byte := BitVec.ofNat 8 (data.length + 1) :: data

/-- The variables `out`, `blk`, `full` of the loop of R91. -/
structure EncLoop where
  out : List Byte
  blk : List Byte
  full : Bool
deriving DecidableEq, Repr

/-- The body of the loop of R91. -/
def encLoopStep (v : EncLoop) (b : Byte) : EncLoop :=
  if b = 0x00#8 then
    { out := v.out ++ closedBlock v.blk, blk := [], full := false }
  else
    let blk := v.blk ++ [b]
    if blk.length = blockLimit then { out := v.out ++ 0xFF#8 :: blk, blk := [], full := true }
    else { v with blk := blk, full := false }

/-- The whole loop of R91. -/
def encLoop (x : List Byte) : EncLoop := x.foldl encLoopStep { out := [], blk := [], full := false }

/-- `cobs_encode(X)`, with the parameter `P_COBS_TRAIL254` (R91). -/
def cobsEncode (trail : Bool) (x : List Byte) : List Byte :=
  let v := encLoop x
  if v.full && !trail then v.out else v.out ++ closedBlock v.blk

/-- The length of the run of non-zero bytes a message ends with, "counted from the last zero (or from the start)" (R91). -/
def trailingRun (x : List Byte) : Nat := (x.reverse.takeWhile (· != 0x00#8)).length

/-- The state change of ENC.PUSH (R92). -/
def encPush (b : Byte) (s : State) : State :=
  if b = 0x00#8 then
    { s.txEmit (closedBlock s.encBuf) with encBuf := [], encFull := false }
  else if s.encBuf.length + 1 = blockLimit then
    { s.txEmit (0xFF#8 :: (s.encBuf ++ [b])) with encBuf := [], encFull := true }
  else
    { s with encBuf := s.encBuf ++ [b], encFull := false }

/-- The state change of ENC.END (R93). -/
def encEnd (s : State) : State :=
  if s.encFull && !s.params.cobsTrail254 then
    { s with encBuf := [], encFull := false }
  else
    { s.txEmit (closedBlock s.encBuf) with encBuf := [], encFull := false }

/-- The state change of ENC.DELIM (R94). -/
def encDelim (s : State) : State := s.txEmit [delimiter]

/-- ENC.PUSH (R92). -/
def execEncPush (b : Byte) (s : State) : StepResult := (encPush b s).done

/-- ENC.END (R93). -/
def execEncEnd (s : State) : StepResult := (encEnd s).done

/-- ENC.DELIM (R94). -/
def execEncDelim (s : State) : StepResult := (encDelim s).done

end Sys2Proof.Machine
end

