-- ==== Sys2Proof/Machine/Frm.lean ====
section
/-! DEFINITION. The wire record (43_framing.md R120), the stream of records (R123), the commands FRM.PUSH and FRM.END (R121,
R122), and the receiver's acceptance test (R124). -/

namespace Sys2Proof.Machine

/-- A byte sequence with its CRC appended, high byte first (R120). -/
def withCrc (d : List Byte) : List Byte := d ++ [crcHigh (crc16 d), crcLow (crc16 d)]

/-- `frame(D)` (R120). -/
def frame (trail : Bool) (d : List Byte) : List Byte := cobsEncode trail (withCrc d) ++ [delimiter]

/-- What leaves over the life of a stream: one zero byte, then the records back to back (R123). -/
def recordStream (trail : Bool) (ds : List (List Byte)) : List Byte := delimiter :: ds.flatMap (frame trail)

/-- The decoded bytes that a consumer accepts as a record: at least a tag and two CRC bytes, and residue zero (R124). The
status OK is asked by taking them from `rxMessages`. -/
def acceptsRecord (m : List Byte) : Bool := decide (3 ≤ m.length) && crc16 m == 0x0000#16

/-- The state change of FRM.PUSH: that of CRC.UPD, then that of ENC.PUSH (R121). -/
def frmPush (b : Byte) (s : State) : State := encPush b (crcUpd b s)

/-- The state change of FRM.END: the CRC bytes to the encoder, high byte first, read before anything changes; then ENC.END,
ENC.DELIM and CRC.CLR (R122). -/
def frmEnd (s : State) : State :=
  crcClr (encDelim (encEnd (encPush (crcLow s.crc) (encPush (crcHigh s.crc) s))))

/-- FRM.PUSH (R121). -/
def execFrmPush (b : Byte) (s : State) : StepResult := (frmPush b s).done

/-- FRM.END (R122). -/
def execFrmEnd (s : State) : StepResult := (frmEnd s).done

end Sys2Proof.Machine
end

