-- ==== Sys2Proof/Machine/Iw.lean ====
section
/-! DEFINITION. The interval waiter: the tick function (44_interval_waiter.md R131), the source's loop (R132), and the commands
IW.CFG, IW.POLL and IW.WAIT (R133, R134, R136). -/

namespace Sys2Proof.Machine

/-- `(now - deadline) mod 2^32`, the time elapsed since the last deadline (R131). -/
def elapsed (deadline now : Word) : Nat := (now - deadline).toNat

/-- `iw_next(interval, deadline, now)`: whether a boundary has passed, and the deadline moved past every one that has
(R131, "for 32-bit unsigned `interval > 0`"). That it answers `(true, deadline)` for `interval = 0`, where R131 says it is not defined,
is DESIGN CHOICE in log entry 14; no command calls it so (R133, R134, R136). -/
def iwNext (interval deadline now : Word) : Bool × Word :=
  let d := elapsed deadline now
  if d ≥ interval.toNat then
    (true, BitVec.ofNat 32 (deadline.toNat + d / interval.toNat * interval.toNat))
  else (false, deadline)

/-- The source's catch-up loop, at most so many passes (R132). That it stops when the passes are used up, which for `interval = 0` is
the only way it ends, is DESIGN CHOICE in log entry 14. -/
def iwAdvance (interval now : Word) : Nat → Word → Word
  | 0, deadline => deadline
  | n + 1, deadline =>
    if elapsed deadline now ≥ interval.toNat then iwAdvance interval now n (deadline + interval) else deadline

/-- The source's `next_interval()` as a loop of at most so many passes (R132, DESIGN CHOICE in log entry 14 where they do not
suffice). -/
def iwLoop (fuel : Nat) (interval deadline now : Word) : Bool × Word :=
  if elapsed deadline now ≥ interval.toNat then (true, iwAdvance interval now fuel deadline) else (false, deadline)

/-- What a poll of a configured waiter finds: the tick of `iw_next` at the next sample (R134). -/
def pollTick (s : State) : Bool := (iwNext s.iwInterval s.iwDeadline s.nextSample).1

/-- The state change of a poll of a configured waiter: one sample, `iw_now` and `iw_deadline` written (R134). -/
def pollState (s : State) : State :=
  { s.takeSample with
    iwNow := s.nextSample
    iwDeadline := (iwNext s.iwInterval s.iwDeadline s.nextSample).2 }

/-- At most so many rounds of IW.WAIT's loop: done at the first tick, held if none of the samples brings one (R136,
DESIGN CHOICE in log entry 5). -/
def waitRounds : Nat → State → StepResult
  | 0, s => s.hold
  | n + 1, s => if pollTick s then (pollState s).result 1#32 else waitRounds n (pollState s)

/-- IW.CFG (R133). -/
def execIwCfg (w : Word) (s : State) : StepResult :=
  if w = 0#32 then s.raise .iwcfg0
  else State.done { s with iwInterval := w, iwDeadline := 0#32, iwNow := 0#32 }

/-- IW.POLL (R134). -/
def execIwPoll (s : State) : StepResult :=
  if s.iwInterval = 0#32 then s.raise .iwuncfg
  else (pollState s).result (if pollTick s then 1#32 else 0#32)

/-- IW.WAIT (R136): the interval is checked once, before any sample; then the samples the time source shows are tried in
turn, one free value where none is listed (DESIGN CHOICE in log entry 5). -/
def execIwWait (s : State) : StepResult :=
  if s.iwInterval = 0#32 then s.raise .iwuncfg
  else waitRounds (max 1 s.timeIn.length) s

end Sys2Proof.Machine
end

