-- ==== Sys2Proof/Machine/Sys.lean ====
section
/-! DEFINITION. The system commands NOP, RESET and REG.RD (45_system.md R145 to R147). -/

namespace Sys2Proof.Machine

/-- Every register and both histories at the values of R44; the host's words, the clock and the parameter are not the block's
(R146 corner case (c), R176). -/
def resetBlock (s : State) : State :=
  { s with
    crc := 0x0000#16
    encBuf := []
    encFull := false
    decRem := 0#8
    decZero := false
    decMid := false
    iwInterval := 0#32
    iwDeadline := 0#32
    iwNow := 0#32
    status := 0#4
    tx := []
    rx := [] }

/-- NOP (R145). -/
def execNop (s : State) : StepResult := s.done

/-- RESET (R146). -/
def execReset (s : State) : StepResult := (resetBlock s).done

/-- REG.RD (R147). An index above 6 has no encoding; as a term it is the illegal command that R40 and R77 (d) call it
(DEDUCED in log entry 9). -/
def execRegRd (idx : Byte) (s : State) : StepResult :=
  match s.regView idx with
  | some v => s.result v
  | none => s.raise .ill

end Sys2Proof.Machine
end

