-- ==== Sys2Proof/Machine/Dispatch.lean ====
section
/-! DEFINITION. The meaning of every command, one arm per constructor of Instr (30_encoding.md R74). -/

namespace Sys2Proof.Machine

def exec (i : Instr) (s : State) : Host.Outcome State Fault Refusal :=
  match i with
  | .nop => Sys2Proof.Machine.execNop s
  | .reset => Sys2Proof.Machine.execReset s
  | .regRd idx => Sys2Proof.Machine.execRegRd idx s
  | .encPush b => Sys2Proof.Machine.execEncPush b s
  | .encEnd => Sys2Proof.Machine.execEncEnd s
  | .encDelim => Sys2Proof.Machine.execEncDelim s
  | .decPush e => Sys2Proof.Machine.execDecPush e s
  | .crcClr => Sys2Proof.Machine.execCrcClr s
  | .crcUpd b => Sys2Proof.Machine.execCrcUpd b s
  | .crcRd => Sys2Proof.Machine.execCrcRd s
  | .frmPush b => Sys2Proof.Machine.execFrmPush b s
  | .frmEnd => Sys2Proof.Machine.execFrmEnd s
  | .iwCfg w => Sys2Proof.Machine.execIwCfg w s
  | .iwPoll => Sys2Proof.Machine.execIwPoll s
  | .iwWait => Sys2Proof.Machine.execIwWait s

end Sys2Proof.Machine
end

