-- ==== Sys2Proof/Machine/Step.lean ====
section
/-! DEFINITION. One step of the machine: the word the host presents is decoded and executed (20_memory.md R52, R60), an illegal
word takes the error outcome ILL (30_encoding.md R77). -/

namespace Sys2Proof.Machine

/-- One step. With no word presented the block does nothing (00_scope.md R6, DESIGN CHOICE in log entry 1). -/
def step (s : State) : Host.Outcome State Fault Refusal :=
  match s.cmds with
  | [] => .next s
  | w :: _ =>
    match decode w with
    | .illegal _ => retire (s.raise .ill)
    | .ok i => retire (exec i s)

/-- The state with a command word presented on the port `cmd` before the host's other words (DESIGN CHOICE in log entry 1). -/
def State.withFetchWord (s : State) (nbits w : Nat) : State :=
  { s with cmds := BitVec.ofNat 40 (w % 2 ^ nbits) :: s.cmds }

end Sys2Proof.Machine
end

