-- ==== Sys2Proof/Machine/Run.lean ====
section
/-! DEFINITION. The host at work: a list of commands issued in order, each after the previous one has completed (00_scope.md R6,
20_memory.md R60), and the pseudo-instructions as such lists (30_encoding.md R80). -/

namespace Sys2Proof.Machine

/-- The commands in order, each on the state the one before it left. A command that is held is not followed by another
(R60, R136): the state where it is held is the answer. -/
def execList : List Instr → State → StepResult
  | [], s => .next s
  | i :: rest, s =>
    match exec i s with
    | .next t => if t.outcome = .held then .next t else execList rest t
    | .fault r => .fault r
    | .refused r => .refused r

/-- The five pseudo-instructions (R80). -/
inductive Pseudo where
  | streamOpen
  | encMsg (x : List Byte)
  | decMsg (x : List Byte)
  | crcMsg (x : List Byte)
  | frmMsg (x : List Byte)
deriving DecidableEq, Repr

/-- The commands a pseudo-instruction stands for (R80). -/
def expand : Pseudo → List Instr
  | .streamOpen => [.encDelim]
  | .encMsg x => x.map .encPush ++ [.encEnd]
  | .decMsg x => x.map .decPush ++ [.decPush 0x00#8]
  | .crcMsg x => .crcClr :: (x.map .crcUpd ++ [.crcRd])
  | .frmMsg x => x.map .frmPush ++ [.frmEnd]

/-- "DEC.MSG e0, ..., en-1 (every ei non-zero)" (R80). -/
def Pseudo.wellFormed : Pseudo → Bool
  | .streamOpen => true
  | .encMsg _ => true
  | .decMsg x => x.all (· != 0x00#8)
  | .crcMsg _ => true
  | .frmMsg _ => true

end Sys2Proof.Machine
end

