-- ==== Sys2Proof/Machine/Asm.lean ====
section
/-! DEFINITION. The assembler syntax (30_encoding.md R79) with the pseudo-instructions (R80): one line of text to the commands it
stands for and the clock samples its annotation assumes. What the rules leave open is DESIGN CHOICE in log entry 11. -/

namespace Sys2Proof.Machine

/-- Why the assembler rejects a line (R79: "the assembler rejects others"). -/
inductive AsmError where
  | unknownMnemonic
  | operandCount
  | badOperand
  | badAnnotation
deriving DecidableEq, Repr

/-- What a line stands for. -/
structure AsmLine where
  cmds : List Instr
  samples : List Word
deriving DecidableEq, Repr

/-- What the assembler makes of a line. -/
inductive Assembled where
  | ok (line : AsmLine)
  | rejected (e : AsmError)
deriving DecidableEq, Repr

def isBlank (c : Char) : Bool := c == ' ' || c == '\t'

def trimBlanks (cs : List Char) : List Char := ((cs.dropWhile isBlank).reverse.dropWhile isBlank).reverse

/-- The pieces of a text between separators. -/
def splitText (sep : Char) : List Char → List (List Char)
  | [] => [[]]
  | c :: cs =>
    match splitText sep cs with
    | [] => [[c]]
    | h :: t => if c == sep then [] :: h :: t else (c :: h) :: t

/-- The value of a digit in a base up to 16. -/
def digitValue (base : Nat) (c : Char) : Option Nat :=
  let n := c.toNat
  let v := if 48 ≤ n ∧ n ≤ 57 then n - 48 else if 65 ≤ n ∧ n ≤ 70 then n - 55 else if 97 ≤ n ∧ n ≤ 102 then n - 87 else 99
  if v < base then some v else none

/-- Digits, first to last, onto a value. -/
def digitsValue (base : Nat) : Nat → List Char → Option Nat
  | acc, [] => some acc
  | acc, c :: cs =>
    match digitValue base c with
    | some d => digitsValue base (acc * base + d) cs
    | none => none

/-- "An operand is an unsigned number in decimal or, with the prefix `0x`, in hexadecimal" (R79). -/
def parseNumber : List Char → Option Nat
  | [] => none
  | '0' :: 'x' :: [] => none
  | '0' :: 'x' :: d :: ds => digitsValue 16 0 (d :: ds)
  | d :: ds => digitsValue 10 0 (d :: ds)

/-- A number below a bound. -/
def parseBelow (bound : Nat) (cs : List Char) : Option Nat :=
  match parseNumber cs with
  | some n => if n < bound then some n else none
  | none => none

def parseByte (cs : List Char) : Option Byte := (parseBelow 256 cs).map (BitVec.ofNat 8)

def parseWord (cs : List Char) : Option Word := (parseBelow 4294967296 cs).map (BitVec.ofNat 32)

/-- The register names of the index space (R40, R79). -/
def registerNames : List String := ["STATUS", "CRC", "ENCST", "DECST", "IWINT", "IWDL", "IWNOW"]

/-- A register index, 0 to 6, as a number or a name (R79). -/
def parseRegister (cs : List Char) : Option Byte :=
  match registerNames.findIdx? (fun n => n.toList == cs) with
  | some k => some (BitVec.ofNat 8 k)
  | none => (parseBelow 7 cs).map (BitVec.ofNat 8)

/-- Every piece parsed, or none. -/
def parseAll {α : Type} (f : List Char → Option α) : List (List Char) → Option (List α)
  | [] => some []
  | p :: ps =>
    match f (trimBlanks p), parseAll f ps with
    | some a, some as => some (a :: as)
    | _, _ => none

/-- Zero or more operands separated by commas (R80). -/
def parseList {α : Type} (f : List Char → Option α) (cs : List Char) : Option (List α) :=
  if (trimBlanks cs).isEmpty then some [] else parseAll f (splitText ',' cs)

/-- The operand forms of the mnemonics: formats Z, B, W, R (R71 to R75) and the lists of the pseudo-instructions (R80). -/
inductive AsmForm where
  | zero (i : Instr)
  | byte (f : Byte → Instr)
  | word (f : Word → Instr)
  | register (f : Byte → Instr)
  | list (f : List Byte → Pseudo)

/-- The mnemonics in capitals (R74, R79) and the pseudo-instructions (R80). -/
def asmTable : List (String × AsmForm) :=
  [("NOP", .zero .nop), ("RESET", .zero .reset), ("REG.RD", .register .regRd), ("ENC.PUSH", .byte .encPush),
   ("ENC.END", .zero .encEnd), ("ENC.DELIM", .zero .encDelim), ("DEC.PUSH", .byte .decPush), ("CRC.CLR", .zero .crcClr)] ++
  [("CRC.UPD", .byte .crcUpd), ("CRC.RD", .zero .crcRd), ("FRM.PUSH", .byte .frmPush), ("FRM.END", .zero .frmEnd),
   ("IW.CFG", .word .iwCfg), ("IW.POLL", .zero .iwPoll), ("IW.WAIT", .zero .iwWait)] ++
  [("STREAM.OPEN", .zero .encDelim), ("ENC.MSG", .list .encMsg), ("DEC.MSG", .list .decMsg), ("CRC.MSG", .list .crcMsg),
   ("FRM.MSG", .list .frmMsg)]

/-- One operand, parsed. -/
def oneOperand {α : Type} (f : List Char → Option α) (mk : α → Instr) (ops : List Char) : Assembled :=
  if ops.isEmpty then .rejected .operandCount
  else
    match f ops with
    | some a => .ok { cmds := [mk a], samples := [] }
    | none => .rejected .badOperand

/-- The commands a mnemonic and its operand text stand for. -/
def asmCommand (form : AsmForm) (ops : List Char) : Assembled :=
  match form with
  | .zero i => if ops.isEmpty then .ok { cmds := [i], samples := [] } else .rejected .operandCount
  | .byte f => oneOperand parseByte f ops
  | .word f => oneOperand parseWord f ops
  | .register f => oneOperand parseRegister f ops
  | .list f =>
    match parseList parseByte ops with
    | some bs => if (f bs).wellFormed then .ok { cmds := expand (f bs), samples := [] } else .rejected .badOperand
    | none => .rejected .badOperand

/-- The annotation `@t=<n>` after IW.POLL or IW.WAIT: "it is not part of the command and states the value of `time_us` that the
example assumes the command samples" (R79). That `@t=` with nothing after it lists no sample, that several samples stand between
commas, and that an annotation of any other form or on any other line is rejected are DESIGN CHOICE in log entry 11. -/
def withAnnotation (ann : List Char) (a : Assembled) : Assembled :=
  match ann, a with
  | [], _ => a
  | '@' :: 't' :: '=' :: ns, .ok line =>
    if line.cmds = [.iwPoll] ∨ line.cmds = [.iwWait] then
      match parseList parseWord ns with
      | some ws => .ok { line with samples := ws }
      | none => .rejected .badAnnotation
    else .rejected .badAnnotation
  | _, .rejected e => .rejected e
  | _, .ok _ => .rejected .badAnnotation

/-- One line: a command or nothing, then an annotation or nothing, then a comment after `;` or nothing (R79). -/
def asmChars (cs : List Char) : Assembled :=
  let code := cs.takeWhile (· != ';')
  let body := trimBlanks (code.takeWhile (· != '@'))
  let ann := trimBlanks (code.dropWhile (· != '@'))
  let mnemonic := body.takeWhile (fun c => !isBlank c)
  let ops := trimBlanks (body.dropWhile (fun c => !isBlank c))
  if body.isEmpty then (if ann.isEmpty then .ok { cmds := [], samples := [] } else .rejected .badAnnotation)
  else
    match asmTable.find? (fun row => row.1.toList == mnemonic) with
    | some row => withAnnotation ann (asmCommand row.2 ops)
    | none => .rejected .unknownMnemonic

/-- One line of assembler text (R79). -/
def asmLine (line : String) : Assembled := asmChars line.toList

end Sys2Proof.Machine
end

