-- ==== Sys2Proof/Safety.lean ====
section
/-! DEFINITION. What a claim about a run may ask of it: the invariants of 10_state.md R43, the idle units of R12, a run without
fault marks (60_exceptions.md R165), and the time source's contract (20_memory.md R57). -/

namespace Sys2Proof.Machine

/-- "Idle encoder: `enc_cnt == 0` and `enc_full == 0`" (R12). -/
abbrev State.encIdle (s : State) : Prop := s.encBuf = [] ∧ s.encFull = false

/-- "Idle decoder: `dec_mid == 0`" (R12); by R43 (e) nothing is owed then. -/
abbrev State.decIdle (s : State) : Prop := s.decRem = 0#8 ∧ s.decZero = false ∧ s.decMid = false

/-- The encoder's invariants, R43 (a), (b), (c). -/
abbrev State.encInv (s : State) : Prop :=
  s.encBuf.length ≤ 253 ∧ (∀ b ∈ s.encBuf, b ≠ 0#8) ∧ (s.encFull = true → s.encBuf = [])

/-- The decoder's invariants, R43 (d), (e), (f). -/
abbrev State.decInv (s : State) : Prop :=
  s.decRem.toNat ≤ 254 ∧ (s.decMid = false → s.decRem = 0#8 ∧ s.decZero = false) ∧ (s.decRem ≠ 0#8 → s.decMid = true)

/-- The waiter's invariant, R43 (g). -/
abbrev State.iwInv (s : State) : Prop := s.iwInterval = 0#32 → s.iwDeadline = 0#32 ∧ s.iwNow = 0#32

/-- A held command is an IW.WAIT of a configured waiter, still at the port (R7, R136). -/
abbrev State.heldInv (s : State) : Prop :=
  s.outcome = .held → s.iwInterval ≠ 0#32 ∧ s.res = none ∧ s.cmds.head? = some (encode .iwWait)

/-- The invariants of R43 (a) to (g), and that of a held command. -/
abbrev State.Inv (s : State) : Prop := s.encInv ∧ s.decInv ∧ s.iwInv ∧ s.heldInv

/-- "STATUS[2:0] == 0": no command of the run had an error outcome (R165). DECTRUNC is no fault mark. -/
abbrev State.faultFree (s : State) : Prop :=
  statusBit .ill s.status = false ∧ statusBit .iwcfg0 s.status = false ∧ statusBit .iwuncfg s.status = false

/-- The commands that use the encoder or send on `tx`: "ENC or FRM command" (R95, R183). -/
def usesEnc : Instr → Bool
  | .encPush _ => true
  | .encEnd => true
  | .encDelim => true
  | .frmPush _ => true
  | .frmEnd => true
  | .nop => false
  | .reset => false
  | .regRd _ => false
  | .decPush _ => false
  | .crcClr => false
  | .crcUpd _ => false
  | .crcRd => false
  | .iwCfg _ => false
  | .iwPoll => false
  | .iwWait => false

/-- The commands that use the CRC: "CRC or FRM command" (R117, R183). -/
def usesCrc : Instr → Bool
  | .crcClr => true
  | .crcUpd _ => true
  | .crcRd => true
  | .frmPush _ => true
  | .frmEnd => true
  | .nop => false
  | .reset => false
  | .regRd _ => false
  | .encPush _ => false
  | .encEnd => false
  | .encDelim => false
  | .decPush _ => false
  | .iwCfg _ => false
  | .iwPoll => false
  | .iwWait => false

/-- The command of the decoder (R102). -/
def usesDec : Instr → Bool
  | .decPush _ => true
  | .nop => false
  | .reset => false
  | .regRd _ => false
  | .encPush _ => false
  | .encEnd => false
  | .encDelim => false
  | .crcClr => false
  | .crcUpd _ => false
  | .crcRd => false
  | .frmPush _ => false
  | .frmEnd => false
  | .iwCfg _ => false
  | .iwPoll => false
  | .iwWait => false

/-- The commands of the waiter (R133, R134, R136). -/
def usesIw : Instr → Bool
  | .iwCfg _ => true
  | .iwPoll => true
  | .iwWait => true
  | .nop => false
  | .reset => false
  | .regRd _ => false
  | .encPush _ => false
  | .encEnd => false
  | .encDelim => false
  | .decPush _ => false
  | .crcClr => false
  | .crcUpd _ => false
  | .crcRd => false
  | .frmPush _ => false
  | .frmEnd => false

/-- The `op` values of format Z (R71). -/
def opsOfFormatZ : List Byte := [0x00#8, 0x01#8, 0x11#8, 0x12#8, 0x30#8, 0x32#8, 0x41#8, 0x51#8, 0x52#8]

/-- The `op` values of formats B and R (R72, R75). -/
def opsOfFormatsBR : List Byte := [0x10#8, 0x20#8, 0x31#8, 0x40#8, 0x02#8]

/-- A word R77 calls illegal, clause by clause: (a) `op` none of the fifteen, (b) format Z with a non-zero operand, (c) format
B or R with non-zero bits above the low byte, (d) REG.RD with an index above 6. -/
abbrev illegalWord (w : CmdWord) : Prop :=
  (w.extractLsb' 32 8 ∉ opsOfFormatZ ∧ w.extractLsb' 32 8 ∉ opsOfFormatsBR ∧ w.extractLsb' 32 8 ≠ 0x50#8) ∨
  (w.extractLsb' 32 8 ∈ opsOfFormatZ ∧ w.extractLsb' 0 32 ≠ 0#32) ∨
  (w.extractLsb' 32 8 ∈ opsOfFormatsBR ∧ w.extractLsb' 8 24 ≠ 0#24) ∨
  (w.extractLsb' 32 8 = 0x02#8 ∧ 6 < (w.extractLsb' 0 8).toNat)

/-- What the port `time_us` shows at a true time (R57). -/
def shown (t : Nat) : Word := BitVec.ofNat 32 t

/-- The contract of the time source: the samples are those of true times that never decrease, none before `t0` (R57). -/
def timeContract (t0 : Nat) (samples : List Word) : Prop :=
  ∃ ts : List Nat, samples = ts.map shown ∧ (t0 :: ts).Pairwise (· ≤ ·)

/-- The last tick boundary at or before a true time, on the grid that starts at `g` with a given period (R130, R137). For
the period 0 and for a time before `g` it is `g`, DESIGN CHOICE in log entry 14. -/
def boundary (g period t : Nat) : Nat := g + (t - g) / period * period

end Sys2Proof.Machine
end

