-- ==== Sys2Proof/Certificates/Slice0/Obligations.lean ====
section
/-! DEFINITION. The statements about the block, for the provers: encodings, the step, the invariants, one statement for what each
command does, and the properties the spec derives. `P_COBS_TRAIL254` is `s.params.cobsTrail254`, so that every statement holds
for both settings (log entry 4). `res` and `outcome` are the step's output as 10_state.md R39 and 00_scope.md R7 give it (log
entry 3). `cmds` and `timeIn` are the host's words and the clock's samples (log entries 1 and 2). -/

open Sys2Proof Sys2Proof.Machine

/-! ## Command words and the step -/

/-- Words of R74 and of the tables of 95_test_vectors.md, every family among them. -/
def Obligations.SpecWordsDecodeToTheirCommands : Prop :=
  decode 0x0000000000#40 = .ok .nop ∧ decode 0x0100000000#40 = .ok .reset ∧ decode 0x0200000006#40 = .ok (.regRd 6) ∧
  decode 0x1000000041#40 = .ok (.encPush 0x41) ∧ decode 0x1100000000#40 = .ok .encEnd ∧ decode 0x1200000000#40 = .ok .encDelim ∧
  decode 0x2000000089#40 = .ok (.decPush 0x89) ∧ decode 0x3000000000#40 = .ok .crcClr ∧ decode 0x310000002A#40 = .ok (.crcUpd 0x2A) ∧
  decode 0x3200000000#40 = .ok .crcRd ∧ decode 0x4000000010#40 = .ok (.frmPush 0x10) ∧ decode 0x4100000000#40 = .ok .frmEnd ∧
  decode 0x50000003E8#40 = .ok (.iwCfg 1000) ∧ decode 0x5100000000#40 = .ok .iwPoll ∧ decode 0x5200000000#40 = .ok .iwWait

/-- Decoding the word of a well-formed command gives the command back, with every operand (R70 to R76). -/
def Obligations.DecodeOfEncodeIsTheCommand : Prop :=
  ∀ i : Instr, i.wellFormed = true → decode (encode i) = .ok i

/-- A word that decodes is the word of the command it decodes to, and that command is well formed: each word has one
meaning (R77). -/
def Obligations.EncodeOfDecodeIsTheWord : Prop :=
  ∀ (w : CmdWord) (i : Instr), decode w = .ok i → i.wellFormed = true ∧ encode i = w

/-- R77: what is illegal, what an illegal word does, and that every other word selects exactly one row of the opcode map and
is executed as the command of that row. -/
def Obligations.IllegalWordsSetIllAndNothingElse : Prop :=
  (∀ (s : State) (w : CmdWord) (rest : List CmdWord), s.cmds = w :: rest → illegalWord w →
    step s = .next { s with status := s.status ||| 1#4, res := none, outcome := .error .ill, cmds := rest }) ∧
  (∀ w : CmdWord, illegalWord w → ∀ r ∈ opcodeTable, r.selects w = false) ∧
  (∀ w : CmdWord, ¬ illegalWord w → ∃ r ∈ opcodeTable, r.selects w = true ∧
    (∀ r' ∈ opcodeTable, r'.selects w = true → r' = r) ∧ ∃ i, decode w = .ok i ∧ i.mnemonic = r.mnemonic)

/-- The command at the port is executed, and the host presents its next word when the command has completed; a held command
stays (R6, R52, R60, R136). -/
def Obligations.StepRunsTheDecodedCommand : Prop :=
  ∀ (s t : State) (w : CmdWord) (rest : List CmdWord) (i : Instr),
    s.cmds = w :: rest → decode w = .ok i → exec i s = .next t →
    step s = .next (if t.outcome = .held then t else { t with cmds := rest })

/-- With no command at the port nothing happens: the model's choice (log entry 1) for R6, "The block itself takes no step of its
own". -/
def Obligations.StepWithoutACommandChangesNothing : Prop :=
  ∀ s : State, s.cmds = [] → step s = .next s

/-- No step stops the machine: "Nothing in this core is fatal" (60_exceptions.md), every command has one of the outcomes done,
error and held (R7). -/
def Obligations.EveryStepAnswersANextState : Prop :=
  ∀ s : State, ∃ t : State, step s = .next t

/-- Only IW.WAIT can be held; every other command completes, with the outcome done or one of the three errors; and every
held or failed command drives no result (R7, R156). -/
def Obligations.OnlyWaitCanBeHeld : Prop :=
  ∀ (i : Instr) (s t : State), exec i s = .next t →
    (t.outcome = .held → i = .iwWait) ∧ t.outcome ≠ .error .dectrunc ∧ (t.outcome ≠ .done → t.res = none)

/-- R57, R60: samples are taken in order, and IW.POLL and IW.WAIT alone read the clock: with any other samples ahead, listed or free,
every other command does everything else alike and takes none. That no command changes the host's words or the open parameter, and
the form of the samples, are the model's choice (log entries 1, 4 and 2). -/
def Obligations.OnlyPollAndWaitReadTheClock : Prop :=
  ∀ (i : Instr) (s t : State), exec i s = .next t →
    t.cmds = s.cmds ∧ t.params = s.params ∧ (∃ n, t.timeIn = s.timeIn.drop n) ∧ s.draws ≤ t.draws ∧
    (i ≠ .iwPoll → i ≠ .iwWait → t.timeIn = s.timeIn ∧ t.draws = s.draws ∧
      ∀ (ws : List Word) (n : Nat),
        exec i { s with timeIn := ws, draws := n } = .next { t with timeIn := ws, draws := n })

/-! ## Invariants and whole-machine rules -/

/-- R43 (a) to (g), kept by every step from every state that meets them, with the model's own clause about a held command
(log entries 3 and 5). -/
def Obligations.EveryStepKeepsTheInvariants : Prop :=
  ∀ s t : State, s.Inv → step s = .next t → t.Inv

/-- The state after reset meets the invariants: those of R43 at the values of R44, and the model's own clause about a held command
(log entries 3 and 5), which it meets because `outcome` is done at reset, the model's choice (log entry 3). -/
def Obligations.ResetMeetsTheInvariants : Prop := State.reset.Inv

/-- R43 (h), (i): a step that does not run RESET clears no STATUS bit and takes nothing back from `tx` or `rx`. -/
def Obligations.StatusAndHistoriesOnlyGrow : Prop :=
  ∀ s t : State, step s = .next t → s.cmds.head? ≠ some 0x0100000000#40 →
    s.status &&& t.status = s.status ∧ s.tx <+: t.tx ∧ s.rx <+: t.rx

/-- Who writes what: `crc` (R22), the encoder's registers (R23, R25), the decoder's (R26 to R28), the waiter's (R29 to R31),
`tx` (R37), `rx` (R38). -/
def Obligations.RegistersChangeOnlyByTheirWriters : Prop :=
  ∀ (i : Instr) (s t : State), exec i s = .next t → i ≠ .reset →
    (usesCrc i = false ∨ i = .crcRd → t.crc = s.crc) ∧
    (usesEnc i = false ∨ i = .encDelim → t.encBuf = s.encBuf ∧ t.encFull = s.encFull) ∧
    (usesEnc i = false → t.tx = s.tx) ∧
    (usesDec i = false → t.decRem = s.decRem ∧ t.decZero = s.decZero ∧ t.decMid = s.decMid ∧ t.rx = s.rx) ∧
    (usesIw i = false → t.iwDeadline = s.iwDeadline ∧ t.iwNow = s.iwNow) ∧
    ((∀ w, i ≠ .iwCfg w) → t.iwInterval = s.iwInterval) ∧
    (t.iwInterval = 0#32 → s.iwInterval = 0#32)

/-- R155: the complete list of what sets a STATUS bit in a decoded command; the other commands leave STATUS as it is. -/
def Obligations.StatusBitsAreSetOnlyByTheirConditions : Prop :=
  ∀ (i : Instr) (s t : State), i.wellFormed = true → exec i s = .next t → i ≠ .reset →
    t.status = s.status |||
      (if i = .iwCfg 0#32 then 2#4
       else if (i = .iwPoll ∨ i = .iwWait) ∧ s.iwInterval = 0#32 then 4#4
       else if i = .decPush 0#8 ∧ s.decMid = true ∧ s.decRem ≠ 0#8 then 8#4
       else 0#4) ∧
    (t.outcome = .error .iwcfg0 ↔ i = .iwCfg 0#32) ∧
    (t.outcome = .error .iwuncfg ↔ (i = .iwPoll ∨ i = .iwWait) ∧ s.iwInterval = 0#32) ∧
    t.outcome ≠ .error .ill

/-- R32: the STATUS bits record, they do not gate. With any other STATUS a command (other than RESET, and REG.RD of STATUS itself)
sets the same bits and does everything else alike. -/
def Obligations.StatusGatesNoCommand : Prop :=
  ∀ (i : Instr) (s t : State) (v : BitVec 4), i ≠ .reset → i ≠ .regRd 0#8 → exec i s = .next t →
    ∃ m : BitVec 4, t.status = s.status ||| m ∧
      exec i { s with status := v } = .next { t with status := v ||| m }

/-- R31: `iw_now` takes part in no later computation. With any other value of it every command but REG.RD of it does everything
else alike. -/
def Obligations.LastSampleInfluencesNothing : Prop :=
  ∀ (i : Instr) (s t : State) (v : Word), i ≠ .regRd 6#8 → exec i s = .next t →
    ∃ v' : Word, exec i { s with iwNow := v } = .next { t with iwNow := v' }

/-- R37, R38: the block never reads `tx` or `rx`. With any other histories a command other than RESET appends the same items and
does everything else alike; at most one item goes to `rx`. -/
def Obligations.HistoriesAreNeverRead : Prop :=
  ∀ (i : Instr) (s t : State) (tx' : List Byte) (rx' : List RxItem), i ≠ .reset → exec i s = .next t →
    ∃ (bs : List Byte) (items : List RxItem), t.tx = s.tx ++ bs ∧ t.rx = s.rx ++ items ∧ items.length ≤ 1 ∧
      exec i { s with tx := tx', rx := rx' } = .next { t with tx := tx' ++ bs, rx := rx' ++ items }

/-- R42: the content of `enc_buf` shows in nothing but what ENC and FRM commands emit; every other command sees its length at
most. -/
def Obligations.BufferContentIsHidden : Prop :=
  ∀ (i : Instr) (s t : State) (b : List Byte), usesEnc i = false → i ≠ .reset → b.length = s.encBuf.length →
    exec i s = .next t → exec i { s with encBuf := b } = .next { t with encBuf := b }

/-! ## SYS -/

/-- R145: NOP has no effect, and drives no result. -/
def Obligations.NopHasNoEffect : Prop :=
  ∀ s : State, exec .nop s = .next { s with res := none, outcome := .done }

/-- R146: RESET puts every register and both histories back; the environment and the parameter are not the block's. -/
def Obligations.ResetPutsEverythingBack : Prop :=
  ∀ s : State, exec .reset s = .next
    { crc := 0x0000#16, encBuf := [], encFull := false, decRem := 0#8, decZero := false, decMid := false,
      iwInterval := 0#32, iwDeadline := 0#32, iwNow := 0#32, status := 0#4, tx := [], rx := [], res := none, outcome := .done,
      cmds := s.cmds, timeIn := s.timeIn, draws := s.draws, params := s.params }

/-- R44: every piece of state at its reset value; the RESET command gives the same (R175). -/
def Obligations.ResetValues : Prop :=
  State.reset.crc = 0x0000#16 ∧ State.reset.encBuf = [] ∧ State.reset.encCnt = 0#8 ∧ State.reset.encFull = false ∧
  State.reset.decRem = 0#8 ∧ State.reset.decZero = false ∧ State.reset.decMid = false ∧
  State.reset.iwInterval = 0#32 ∧ State.reset.iwDeadline = 0#32 ∧ State.reset.iwNow = 0#32 ∧ State.reset.status = 0#4 ∧
  State.reset.tx = [] ∧ State.reset.rx = [] ∧ State.reset.res = none ∧
  ∀ s : State, exec .reset s = .next
    { State.reset with outcome := .done, cmds := s.cmds, timeIn := s.timeIn, draws := s.draws, params := s.params }

/-- R147, R40: REG.RD of a populated index drives that view and changes nothing. The two packed views are given by the value of
the 32 bits; the bounds of R24 and R26 are not needed but for the count. -/
def Obligations.RegRdDrivesTheViewAndChangesNothing : Prop :=
  ∀ s : State,
    (exec (.regRd 0#8) s = .next { s with res := some (s.status.setWidth 32), outcome := .done }) ∧
    (exec (.regRd 1#8) s = .next { s with res := some (s.crc.setWidth 32), outcome := .done }) ∧
    (s.encBuf.length ≤ 253 → exec (.regRd 2#8) s = .next
      { s with res := some (BitVec.ofNat 32 (s.encBuf.length + s.encFull.toNat * 256)), outcome := .done }) ∧
    (exec (.regRd 3#8) s = .next
      { s with res := some (BitVec.ofNat 32 (s.decRem.toNat + s.decZero.toNat * 256 + s.decMid.toNat * 512)),
               outcome := .done }) ∧
    (exec (.regRd 4#8) s = .next { s with res := some s.iwInterval, outcome := .done }) ∧
    (exec (.regRd 5#8) s = .next { s with res := some s.iwDeadline, outcome := .done }) ∧
    (exec (.regRd 6#8) s = .next { s with res := some s.iwNow, outcome := .done })

/-- A REG.RD term with a reserved index, which no word decodes to, is the illegal command of R40 (log entry 9). -/
def Obligations.RegRdOfAReservedIndexIsIllegal : Prop :=
  ∀ (s : State) (idx : Byte), 6 < idx.toNat →
    exec (.regRd idx) s = .next { s with status := s.status ||| 1#4, res := none, outcome := .error .ill }

/-! ## ENC -/

/-- R92: ENC.PUSH, branch by branch. -/
def Obligations.EncPushBuffersOrEmitsABlock : Prop :=
  ∀ (s : State) (b : Byte),
    (b = 0#8 → exec (.encPush b) s = .next
      { s with tx := s.tx ++ BitVec.ofNat 8 (s.encBuf.length + 1) :: s.encBuf, encBuf := [], encFull := false,
               res := none, outcome := .done }) ∧
    (b ≠ 0#8 → s.encBuf.length = 253 → exec (.encPush b) s = .next
      { s with tx := s.tx ++ 0xFF#8 :: (s.encBuf ++ [b]), encBuf := [], encFull := true,
               res := none, outcome := .done }) ∧
    (b ≠ 0#8 → s.encBuf.length ≠ 253 → exec (.encPush b) s = .next
      { s with encBuf := s.encBuf ++ [b], encFull := false, res := none, outcome := .done })

/-- R93: ENC.END emits the block still owed, or nothing after a full block when the parameter is 0. -/
def Obligations.EncEndEmitsTheOwedBlock : Prop :=
  ∀ s : State,
    (s.encFull = true ∧ s.params.cobsTrail254 = false → exec .encEnd s = .next
      { s with encBuf := [], encFull := false, res := none, outcome := .done }) ∧
    (¬ (s.encFull = true ∧ s.params.cobsTrail254 = false) → exec .encEnd s = .next
      { s with tx := s.tx ++ BitVec.ofNat 8 (s.encBuf.length + 1) :: s.encBuf, encBuf := [], encFull := false,
               res := none, outcome := .done })

/-- R94: ENC.DELIM emits the delimiter and changes nothing else. -/
def Obligations.EncDelimEmitsAZero : Prop :=
  ∀ s : State, exec .encDelim s = .next { s with tx := s.tx ++ [0x00#8], res := none, outcome := .done }

/-- R95: from an idle encoder, the pushes of a message and ENC.END, with any commands but ENC, FRM and RESET between them, append
`cobs_encode` of the message and leave the encoder idle. -/
def Obligations.EncoderStreamsCobsEncode : Prop :=
  ∀ (s : State) (x : List Byte), s.encIdle →
    (∀ (prog : List Instr) (t : State), .reset ∉ prog → prog.filter usesEnc = x.map .encPush ++ [.encEnd] →
      execList prog s = .next t → t.outcome ≠ .held →
      t.tx = s.tx ++ cobsEncode s.params.cobsTrail254 x ∧ t.encIdle) ∧
    execList (expand (.encMsg x)) s = .next
      { s with tx := s.tx ++ cobsEncode s.params.cobsTrail254 x, res := none, outcome := .done }

/-- R96 (a): no byte of an encoding is zero. -/
def Obligations.EncodingHoldsNoZero : Prop :=
  ∀ (trail : Bool) (x : List Byte), 0x00#8 ∉ cobsEncode trail x

/-- R96 (b), R90: an encoding is a sequence of well-formed blocks that stands for the message. -/
def Obligations.EncodingIsBlocksOfTheMessage : Prop :=
  ∀ (trail : Bool) (x : List Byte), ∃ bs : List CobsBlock, bs ≠ [] ∧ (∀ b ∈ bs, wellFormedBlock b = true) ∧
    blocksBytes bs = cobsEncode trail x ∧ blocksMessage bs = x

/-- R96 (c): the overhead of an encoding, for both settings. -/
def Obligations.EncodingOverheadIsBounded : Prop :=
  ∀ x : List Byte,
    (x.length + 1 ≤ (cobsEncode false x).length ∧
      (cobsEncode false x).length ≤ x.length + max 1 ((x.length + 253) / 254)) ∧
    (x.length + 1 ≤ (cobsEncode true x).length ∧ (cobsEncode true x).length ≤ x.length + x.length / 254 + 1)

/-- R91, "In that case alone the two settings of the parameter differ": where the message ends with a run of non-zero bytes whose
length is a positive multiple of 254, the loop ends with `full` set, the last thing emitted with setting 0 is a full block, and
setting 1 emits one more byte 0x01; for every other message `full` is clear at the end and the two encodings are equal. -/
def Obligations.TheParameterAddsAtMostOneByte : Prop :=
  ∀ x : List Byte,
    (0 < trailingRun x → trailingRun x % 254 = 0 →
      (encLoop x).full = true ∧ cobsEncode true x = cobsEncode false x ++ [0x01#8] ∧
      ∃ d z : List Byte, d <:+ x ∧ d.length = 254 ∧ 0x00#8 ∉ d ∧ cobsEncode false x = z ++ 0xFF#8 :: d) ∧
    (trailingRun x = 0 ∨ trailingRun x % 254 ≠ 0 →
      (encLoop x).full = false ∧ cobsEncode true x = cobsEncode false x)

/-! ## DEC -/

/-- R102: DEC.PUSH, branch by branch. -/
def Obligations.DecPushFollowsTheFrame : Prop :=
  ∀ (s : State) (e : Byte),
    (e = 0#8 → s.decMid = false → exec (.decPush e) s = .next
      { s with rx := s.rx ++ [.endFrame .empty], decRem := 0#8, decZero := false, decMid := false,
               res := none, outcome := .done }) ∧
    (e = 0#8 → s.decMid = true → s.decRem ≠ 0#8 → exec (.decPush e) s = .next
      { s with rx := s.rx ++ [.endFrame .trunc], status := s.status ||| 8#4, decRem := 0#8, decZero := false,
               decMid := false, res := none, outcome := .done }) ∧
    (e = 0#8 → s.decMid = true → s.decRem = 0#8 → exec (.decPush e) s = .next
      { s with rx := s.rx ++ [.endFrame .ok], decRem := 0#8, decZero := false, decMid := false,
               res := none, outcome := .done }) ∧
    (e ≠ 0#8 → s.decRem = 0#8 → exec (.decPush e) s = .next
      { s with rx := s.rx ++ (if s.decZero then [.byte 0x00#8] else []), decRem := e - 1#8,
               decZero := decide (e ≠ 0xFF#8), decMid := true, res := none, outcome := .done }) ∧
    (e ≠ 0#8 → s.decRem ≠ 0#8 → exec (.decPush e) s = .next
      { s with rx := s.rx ++ [.byte e], decRem := s.decRem - 1#8, res := none, outcome := .done })

/-- R103 (a): from an idle decoder, the bytes of a frame and the delimiter, with any commands but DEC.PUSH and RESET between them,
append what `cobs_decode` gives and leave the decoder idle. -/
def Obligations.DecoderStreamsCobsDecode : Prop :=
  ∀ (s : State) (e : List Byte), s.decIdle → 0x00#8 ∉ e →
    (∀ (prog : List Instr) (t : State), .reset ∉ prog → prog.filter usesDec = e.map .decPush ++ [.decPush 0#8] →
      execList prog s = .next t → t.outcome ≠ .held →
      t.rx = s.rx ++ (cobsDecode e).1.map .byte ++ [.endFrame (cobsDecode e).2] ∧ t.decIdle) ∧
    ∃ t, execList (expand (.decMsg e)) s = .next t

/-- R103 (b): decoding an encoding gives the message, for every message and both settings; so the encoding is injective
(R96 (e)). -/
def Obligations.DecodeOfCobsEncodeIsTheMessage : Prop :=
  ∀ (trail : Bool) (x : List Byte), cobsDecode (cobsEncode trail x) = (x, .ok)

/-- R103 (c): every well-formed frame decodes to the message it stands for. -/
def Obligations.WellFormedFramesDecode : Prop :=
  ∀ bs : List CobsBlock, bs ≠ [] → (∀ b ∈ bs, wellFormedBlock b = true) →
    cobsDecode (blocksBytes bs) = (blocksMessage bs, .ok)

/-- R102 corner case (f) and R104: whatever the decoder was doing, after a delimiter the messages taken from what follows are
those taken from an idle decoder. A garbled frame never affects the next one. -/
def Obligations.AGarbledFrameDoesNotAffectTheNext : Prop :=
  ∀ (s : State) (x : List Byte) (trail : Bool),
    ∃ t : State, execList ([.decPush 0#8] ++ (cobsEncode trail x).map .decPush ++ [.decPush 0#8]) s = .next t ∧
      ∃ st : FrameStatus, t.rx = s.rx ++ [.endFrame st] ++ x.map .byte ++ [.endFrame .ok] ∧ t.decIdle

/-! ## CRC -/

/-- R114, R116: CRC.CLR and CRC.RD. -/
def Obligations.CrcClrClearsAndCrcRdReads : Prop :=
  ∀ s : State,
    exec .crcClr s = .next { s with crc := 0x0000#16, res := none, outcome := .done } ∧
    exec .crcRd s = .next { s with res := some (s.crc.setWidth 32), outcome := .done }

/-- R115 with R110 written out: CRC.UPD takes the byte in at the top of the register and makes eight passes, each a shift and, if
bit 15 was 1, the polynomial; nothing else changes. -/
def Obligations.CrcUpdIsEightPasses : Prop :=
  ∀ (s : State) (b : Byte) (r : Nat → Half),
    r 0 = s.crc ^^^ (b.setWidth 16 <<< 8) →
    (∀ k < 8, r (k + 1) = if (r k).getLsbD 15 then (r k <<< 1) ^^^ 0x011B#16 else r k <<< 1) →
    exec (.crcUpd b) s = .next { s with crc := r 8, res := none, outcome := .done }

/-- R113: the table form equals the eight passes for every register value and byte, and entry `i` is the update of 0 by `i`. -/
def Obligations.TableFormEqualsTheEightPasses : Prop :=
  crcTable.length = 256 ∧
  (∀ b : Byte, crcTable[b.toNat]? = some (crc16Update 0x0000#16 b)) ∧
  (∀ (c : Half) (b : Byte), crc16TableUpdate c b = crc16Update c b)

/-- R117 (a): after CRC.CLR and the updates of a message, with any commands but CRC, FRM and RESET between them, `crc` is `crc16` of
the message; and CRC.MSG drives it as its result (R80). -/
def Obligations.CrcStreamsCrc16 : Prop :=
  ∀ (s : State) (x : List Byte),
    (∀ (prog : List Instr) (t : State), .reset ∉ prog → prog.filter usesCrc = .crcClr :: x.map .crcUpd →
      execList prog s = .next t → t.outcome ≠ .held → t.crc = crc16 x) ∧
    execList (expand (.crcMsg x)) s = .next
      { s with crc := crc16 x, res := some ((crc16 x).setWidth 32), outcome := .done }

open Polynomial in
/-- R117 (b): `crc16(X)` is the remainder of X(x) times x^16 by G(x) over GF(2), bit 7 of the first byte the highest
coefficient. -/
def Obligations.Crc16IsThePolynomialRemainder : Prop :=
  ∀ x : List Byte,
    (x.foldl (fun (p : (ZMod 2)[X]) b => p * X ^ 8 + ∑ k ∈ Finset.range 8, if b.getLsbD k then X ^ k else 0) 0 * X ^ 16) %ₘ
        (X ^ 16 + X ^ 8 + X ^ 4 + X ^ 3 + X + 1) =
      ∑ k ∈ Finset.range 16, if (crc16 x).getLsbD k then (X ^ k : (ZMod 2)[X]) else 0

/-- R117 (c): the residue of a message followed by its own CRC, high byte first, is zero; and conversely two appended bytes that
leave the residue zero are that CRC. -/
def Obligations.ResidueIsZeroExactlyForTheCrc : Prop :=
  ∀ (x : List Byte) (h l : Byte), crc16 (x ++ [h, l]) = 0x0000#16 ↔ h ++ l = crc16 x

/-- R117 (d), R115 corner case (a): the CRC is linear on messages of equal length, and leading zero bytes do not change it. -/
def Obligations.CrcIsLinear : Prop :=
  (∀ x y : List Byte, x.length = y.length → crc16 (List.zipWith (· ^^^ ·) x y) = crc16 x ^^^ crc16 y) ∧
  (∀ (n : Nat) (x : List Byte), crc16 (List.replicate n 0x00#8 ++ x) = crc16 x)

/-- R117 (e), (f) and vectors K12, K17, K18: order sensitivity, the check value, a residue. -/
def Obligations.CrcSpotValues : Prop :=
  crc16 [] = 0x0000#16 ∧ crc16 [0x41, 0x42] = 0xDE77 ∧ crc16 [0x42, 0x41] = 0xF377 ∧ crc16 [0x10, 0x2A] = 0x8925 ∧
  crc16 [0x31, 0x32, 0x33, 0x34, 0x35, 0x36, 0x37, 0x38, 0x39] = 0x8D1C ∧ crc16 [0x10, 0x2A, 0x89, 0x25] = 0x0000

/-! ## FRM -/

/-- R121: FRM.PUSH is CRC.UPD and then ENC.PUSH in one step, in either order; everything that neither writes is unchanged. -/
def Obligations.FrmPushIsCrcUpdAndEncPush : Prop :=
  ∀ (s : State) (b : Byte), ∃ t : State, exec (.frmPush b) s = .next t ∧
    execList [.crcUpd b, .encPush b] s = .next t ∧ execList [.encPush b, .crcUpd b] s = .next t ∧
    t.crc = crc16Update s.crc b ∧
    t = { s with crc := t.crc, encBuf := t.encBuf, encFull := t.encFull, tx := t.tx, res := none, outcome := .done }

/-- R122: FRM.END is the two CRC bytes to ENC.PUSH, high byte first, then ENC.END, ENC.DELIM and CRC.CLR, in one step, on whatever
state it finds; the encoder is then idle and `crc` zero; everything else but `tx` is unchanged. -/
def Obligations.FrmEndClosesTheRecord : Prop :=
  ∀ s : State, ∃ t : State, exec .frmEnd s = .next t ∧
    execList [.encPush (s.crc.extractLsb' 8 8), .encPush (s.crc.extractLsb' 0 8), .encEnd, .encDelim, .crcClr] s = .next t ∧
    t = { s with crc := 0x0000#16, encBuf := [], encFull := false, tx := t.tx, res := none, outcome := .done }

/-- R125: with `crc` zero and the encoder idle, the pushes of a message and FRM.END, with any commands but CRC, ENC, FRM and RESET
between them, append `frame` of it and leave `crc` zero and the encoder idle; the last byte is the only zero. -/
def Obligations.FrmCommandsSendTheRecord : Prop :=
  ∀ (s : State) (d : List Byte), s.crc = 0x0000#16 → s.encIdle →
    (∀ (prog : List Instr) (t : State), .reset ∉ prog →
      prog.filter (fun i => usesEnc i || usesCrc i) = d.map .frmPush ++ [.frmEnd] →
      execList prog s = .next t → t.outcome ≠ .held →
      t.tx = s.tx ++ frame s.params.cobsTrail254 d ∧ t.crc = 0x0000#16 ∧ t.encIdle) ∧
    execList (expand (.frmMsg d)) s = .next
      { s with tx := s.tx ++ frame s.params.cobsTrail254 d, res := none, outcome := .done } ∧
    ∃ body : List Byte, frame s.params.cobsTrail254 d = body ++ [0x00#8] ∧ 0x00#8 ∉ body

/-- R124: an idle decoder given the bytes of `frame(D)` gains D and its CRC as `byte` items and then `end(OK)`; the decoded bytes have
residue zero and are accepted when there is a tag. -/
def Obligations.AReceiverDecodesAndAcceptsTheRecord : Prop :=
  ∀ (s : State) (trail : Bool) (d : List Byte), s.decIdle →
    (∃ t : State, execList ((frame trail d).map .decPush) s = .next t ∧ t.decIdle ∧
      t.rx = s.rx ++ (d ++ [crcHigh (crc16 d), crcLow (crc16 d)]).map .byte ++ [.endFrame .ok]) ∧
    (d ≠ [] → acceptsRecord (d ++ [crcHigh (crc16 d), crcLow (crc16 d)]) = true)

/-- R123 end to end: from every state with an idle decoder, the stream of records given to the decoder appends to `rx` first an empty
frame and then what a consumer takes as exactly the messages sent, each with its CRC; no frame is truncated, STATUS and everything
else is as before. -/
def Obligations.TheStreamYieldsExactlyTheRecordsSent : Prop :=
  ∀ (s : State) (trail : Bool) (ds : List (List Byte)), s.decIdle → ∃ items : List RxItem,
    execList ((recordStream trail ds).map .decPush) s = .next
      { s with rx := s.rx ++ items, res := none, outcome := .done } ∧
    items.head? = some (.endFrame .empty) ∧ rxMessages items = ds.map withCrc

/-! ## IW -/

/-- R133: IW.CFG, both branches. -/
def Obligations.IwCfgConfiguresOrRefusesZero : Prop :=
  ∀ (s : State) (w : Word),
    (w = 0#32 → exec (.iwCfg w) s = .next
      { s with status := s.status ||| 2#4, res := none, outcome := .error .iwcfg0 }) ∧
    (w ≠ 0#32 → exec (.iwCfg w) s = .next
      { s with iwInterval := w, iwDeadline := 0#32, iwNow := 0#32, res := none, outcome := .done })

/-- R134 with R131 written out: a poll of an unconfigured waiter is the error IWUNCFG and takes no sample; a poll of a configured one
takes one sample, and reports and passes every boundary that lies at or before it. For every sample, the free values too. -/
def Obligations.PollReportsAndPassesTheBoundaries : Prop :=
  ∀ s : State,
    (s.iwInterval = 0#32 → exec .iwPoll s = .next
      { s with status := s.status ||| 4#4, res := none, outcome := .error .iwuncfg }) ∧
    (∀ now : Word, s.iwInterval ≠ 0#32 → s.nextSample = now → (now - s.iwDeadline).toNat < s.iwInterval.toNat →
      exec .iwPoll s = .next { s.takeSample with iwNow := now, res := some 0#32, outcome := .done }) ∧
    (∀ now : Word, s.iwInterval ≠ 0#32 → s.nextSample = now → s.iwInterval.toNat ≤ (now - s.iwDeadline).toNat →
      exec .iwPoll s = .next
        { s.takeSample with
          iwNow := now,
          iwDeadline := BitVec.ofNat 32
            (s.iwDeadline.toNat + (now - s.iwDeadline).toNat / s.iwInterval.toNat * s.iwInterval.toNat),
          res := some 1#32, outcome := .done })

/-- The clock as the model holds it (log entry 2): a listed sample is used up; with none listed the sample is the free value of the
draw, which is counted; nothing else changes. -/
def Obligations.SamplesAreTakenInOrder : Prop :=
  ∀ s : State,
    (∀ (now : Word) (rest : List Word), s.timeIn = now :: rest →
      s.nextSample = now ∧ s.takeSample = { s with timeIn := rest }) ∧
    (s.timeIn = [] → s.nextSample = Config.timeSample s.draws ∧ s.takeSample = { s with draws := s.draws + 1 })

/-- R131: `iw_next`. With an interval or more elapsed there is a tick and the deadline moves by the whole intervals that have passed;
else there is none and it stands; what is left to the sample is the remainder, below one interval. -/
def Obligations.TickMovesTheDeadlineByWholeIntervals : Prop :=
  ∀ interval deadline now : Word, interval ≠ 0#32 →
    (interval.toNat ≤ (now - deadline).toNat →
      iwNext interval deadline now = (true, deadline + BitVec.ofNat 32 ((now - deadline).toNat / interval.toNat) * interval) ∧
      1 ≤ (now - deadline).toNat / interval.toNat) ∧
    ((now - deadline).toNat < interval.toNat → iwNext interval deadline now = (false, deadline)) ∧
    (now - (iwNext interval deadline now).2).toNat = (now - deadline).toNat % interval.toNat ∧
    (now - (iwNext interval deadline now).2).toNat < interval.toNat

/-- R132: the closed form equals the source's catch-up loop, which ends after `d div interval` passes. -/
def Obligations.ClosedFormEqualsTheSourcesLoop : Prop :=
  ∀ (interval deadline now : Word) (fuel : Nat), interval ≠ 0#32 →
    (now - deadline).toNat / interval.toNat ≤ fuel →
    iwLoop fuel interval deadline now = iwNext interval deadline now

/-- R134 corner case (b): a boundary fires once. A second poll that samples the same time gives 0 and leaves the deadline. -/
def Obligations.ASecondPollAtTheSameTimeGivesNoTick : Prop :=
  ∀ s t : State, s.iwInterval ≠ 0#32 → exec .iwPoll s = .next t → t.nextSample = s.nextSample →
    exec .iwPoll t = .next { t.takeSample with res := some 0#32, outcome := .done }

/-- R136: IW.WAIT of an unconfigured waiter is the error IWUNCFG at once: no sample, no hang. -/
def Obligations.WaitOfAnUnconfiguredWaiterIsAnError : Prop :=
  ∀ s : State, s.iwInterval = 0#32 →
    exec .iwWait s = .next { s with status := s.status ||| 4#4, res := none, outcome := .error .iwuncfg }

/-- R136: IW.WAIT completes at the first sample that reaches the boundary, and its whole effect is that of one IW.POLL taking that
sample. That the samples before it are tried in the same step is the model's choice (log entry 5). -/
def Obligations.WaitIsThePollOfItsFirstTickingSample : Prop :=
  ∀ (s : State) (before after : List Word) (now : Word), s.iwInterval ≠ 0#32 → s.timeIn = before ++ now :: after →
    (∀ w ∈ before, (w - s.iwDeadline).toNat < s.iwInterval.toNat) →
    s.iwInterval.toNat ≤ (now - s.iwDeadline).toNat →
    exec .iwWait s = exec .iwPoll { s with timeIn := now :: after } ∧
    exec .iwWait s = .next
      { s with
        timeIn := after, iwNow := now,
        iwDeadline := BitVec.ofNat 32
          (s.iwDeadline.toNat + (now - s.iwDeadline).toNat / s.iwInterval.toNat * s.iwInterval.toNat),
        res := some 1#32, outcome := .done }

/-- R136: while no sample reaches the boundary IW.WAIT is held: the deadline stands, no result is driven. That a step tries the samples
listed, and one free value where none is listed, is the model's choice (log entries 2 and 5). -/
def Obligations.WaitIsHeldUntilASampleReachesTheBoundary : Prop :=
  ∀ s : State, s.iwInterval ≠ 0#32 →
    (∀ (w : Word) (ws : List Word), s.timeIn = w :: ws →
      (∀ v ∈ w :: ws, (v - s.iwDeadline).toNat < s.iwInterval.toNat) →
      exec .iwWait s = .next { s with timeIn := [], iwNow := ws.getLastD w, res := none, outcome := .held }) ∧
    (s.timeIn = [] → (Config.timeSample s.draws - s.iwDeadline).toNat < s.iwInterval.toNat →
      exec .iwWait s = .next
        { s with draws := s.draws + 1, iwNow := Config.timeSample s.draws, res := none, outcome := .held }) ∧
    (s.timeIn = [] → s.iwInterval.toNat ≤ (Config.timeSample s.draws - s.iwDeadline).toNat →
      exec .iwWait s = exec .iwPoll s)

/-- R137, R138 (a), one poll: while the deadline stands for the last boundary at or before the previous sample and the poll comes less
than 2^32 microseconds after it, the deadline afterwards stands for the last boundary at or before the sample, and the tick is
reported exactly when a boundary lies between the two samples. -/
def Obligations.PollInTrueTimeReportsPassedBoundaries : Prop :=
  ∀ (s : State) (g a b : Nat), s.iwInterval ≠ 0#32 → g ≤ a → a ≤ b →
    s.iwDeadline = shown (boundary g s.iwInterval.toNat a) → s.nextSample = shown b →
    b - boundary g s.iwInterval.toNat a < 2 ^ 32 →
    exec .iwPoll s = .next
      { s.takeSample with
        iwNow := shown b, iwDeadline := shown (boundary g s.iwInterval.toNat b),
        res := some (if (a - g) / s.iwInterval.toNat < (b - g) / s.iwInterval.toNat then 1#32 else 0#32), outcome := .done }

/-- R137, any number of polls: under the time source's contract, and while no poll is 2^32 microseconds or more after the deadline it
inspects, the deadline stays on the grid and stands for the last boundary at or before the latest sample; lateness does not
accumulate. -/
def Obligations.DeadlinesStayOnTheGrid : Prop :=
  ∀ (s : State) (g : Nat) (ts : List Nat) (rest : List Word), s.iwInterval ≠ 0#32 → s.iwDeadline = shown g →
    s.timeIn = ts.map shown ++ rest →
    List.IsChain (fun a b => a ≤ b ∧ b - boundary g s.iwInterval.toNat a < 2 ^ 32) (g :: ts) →
    ∃ t : State, execList (List.replicate ts.length .iwPoll) s = .next t ∧
      t.iwDeadline = shown (boundary g s.iwInterval.toNat (ts.getLastD g)) ∧ t.timeIn = rest ∧
      (ts ≠ [] → t.iwNow = shown (ts.getLastD g))
end

