-- ==== Sys2Proof/Laws/Clock.lean ====
section
/-! SUPPORT. Why the samples of the model are unconstrained: every sequence of 32-bit samples meets the time source's contract
(20_memory.md R57), since the true time may advance by any amount between two samples (log entry 2). -/

namespace Sys2Proof.Machine

/-- From any true time there is a later one that shows a given sample. -/
theorem exists_later_time_that_shows (t : Nat) (w : Word) : ∃ t', t ≤ t' ∧ shown t' = w := by
  refine ⟨t + (w - shown t).toNat, by omega, ?_⟩
  apply BitVec.eq_of_toNat_eq
  have hw := w.isLt
  simp only [shown, BitVec.toNat_ofNat, BitVec.toNat_sub]
  omega

/-- Every sequence of samples meets the contract from every start (R57). -/
theorem every_sample_sequence_meets_timeContract (samples : List Word) (t0 : Nat) : timeContract t0 samples := by
  induction samples generalizing t0 with
  | nil => exact ⟨[], rfl, by simp⟩
  | cons w ws ih =>
    obtain ⟨t, ht, hw⟩ := exists_later_time_that_shows t0 w
    obtain ⟨ts, hs, hp⟩ := ih t
    refine ⟨t :: ts, by simp [hw, hs], ?_⟩
    have later : ∀ u ∈ ts, t ≤ u := fun u hu => List.rel_of_pairwise_cons hp hu
    refine List.pairwise_cons.2 ⟨fun u hu => ?_, hp⟩
    rcases List.mem_cons.1 hu with rfl | hu
    · exact ht
    · exact Nat.le_trans ht (later u hu)

end Sys2Proof.Machine
end

