-- ==== Sys2Proof/Laws/State.lean ====
section
/-! SUPPORT. One lemma per field for each shared update of State: what the operation leaves in the field. -/

namespace Sys2Proof.Machine

/-! `State.txEmit` -/

@[simp] theorem State.txEmit_crc (bs : List Byte) (s : State) : (s.txEmit bs).crc = s.crc := rfl
@[simp] theorem State.txEmit_encBuf (bs : List Byte) (s : State) : (s.txEmit bs).encBuf = s.encBuf := rfl
@[simp] theorem State.txEmit_encFull (bs : List Byte) (s : State) : (s.txEmit bs).encFull = s.encFull := rfl
@[simp] theorem State.txEmit_decRem (bs : List Byte) (s : State) : (s.txEmit bs).decRem = s.decRem := rfl
@[simp] theorem State.txEmit_decZero (bs : List Byte) (s : State) : (s.txEmit bs).decZero = s.decZero := rfl
@[simp] theorem State.txEmit_decMid (bs : List Byte) (s : State) : (s.txEmit bs).decMid = s.decMid := rfl
@[simp] theorem State.txEmit_iwInterval (bs : List Byte) (s : State) : (s.txEmit bs).iwInterval = s.iwInterval := rfl
@[simp] theorem State.txEmit_iwDeadline (bs : List Byte) (s : State) : (s.txEmit bs).iwDeadline = s.iwDeadline := rfl
@[simp] theorem State.txEmit_iwNow (bs : List Byte) (s : State) : (s.txEmit bs).iwNow = s.iwNow := rfl
@[simp] theorem State.txEmit_status (bs : List Byte) (s : State) : (s.txEmit bs).status = s.status := rfl
@[simp] theorem State.txEmit_tx (bs : List Byte) (s : State) : (s.txEmit bs).tx = s.tx ++ bs := rfl
@[simp] theorem State.txEmit_rx (bs : List Byte) (s : State) : (s.txEmit bs).rx = s.rx := rfl
@[simp] theorem State.txEmit_res (bs : List Byte) (s : State) : (s.txEmit bs).res = s.res := rfl
@[simp] theorem State.txEmit_outcome (bs : List Byte) (s : State) : (s.txEmit bs).outcome = s.outcome := rfl
@[simp] theorem State.txEmit_cmds (bs : List Byte) (s : State) : (s.txEmit bs).cmds = s.cmds := rfl
@[simp] theorem State.txEmit_timeIn (bs : List Byte) (s : State) : (s.txEmit bs).timeIn = s.timeIn := rfl
@[simp] theorem State.txEmit_draws (bs : List Byte) (s : State) : (s.txEmit bs).draws = s.draws := rfl
@[simp] theorem State.txEmit_params (bs : List Byte) (s : State) : (s.txEmit bs).params = s.params := rfl

/-! `State.rxEmit` -/

@[simp] theorem State.rxEmit_crc (item : RxItem) (s : State) : (s.rxEmit item).crc = s.crc := rfl
@[simp] theorem State.rxEmit_encBuf (item : RxItem) (s : State) : (s.rxEmit item).encBuf = s.encBuf := rfl
@[simp] theorem State.rxEmit_encFull (item : RxItem) (s : State) : (s.rxEmit item).encFull = s.encFull := rfl
@[simp] theorem State.rxEmit_decRem (item : RxItem) (s : State) : (s.rxEmit item).decRem = s.decRem := rfl
@[simp] theorem State.rxEmit_decZero (item : RxItem) (s : State) : (s.rxEmit item).decZero = s.decZero := rfl
@[simp] theorem State.rxEmit_decMid (item : RxItem) (s : State) : (s.rxEmit item).decMid = s.decMid := rfl
@[simp] theorem State.rxEmit_iwInterval (item : RxItem) (s : State) : (s.rxEmit item).iwInterval = s.iwInterval := rfl
@[simp] theorem State.rxEmit_iwDeadline (item : RxItem) (s : State) : (s.rxEmit item).iwDeadline = s.iwDeadline := rfl
@[simp] theorem State.rxEmit_iwNow (item : RxItem) (s : State) : (s.rxEmit item).iwNow = s.iwNow := rfl
@[simp] theorem State.rxEmit_status (item : RxItem) (s : State) : (s.rxEmit item).status = s.status := rfl
@[simp] theorem State.rxEmit_tx (item : RxItem) (s : State) : (s.rxEmit item).tx = s.tx := rfl
@[simp] theorem State.rxEmit_rx (item : RxItem) (s : State) : (s.rxEmit item).rx = s.rx ++ [item] := rfl
@[simp] theorem State.rxEmit_res (item : RxItem) (s : State) : (s.rxEmit item).res = s.res := rfl
@[simp] theorem State.rxEmit_outcome (item : RxItem) (s : State) : (s.rxEmit item).outcome = s.outcome := rfl
@[simp] theorem State.rxEmit_cmds (item : RxItem) (s : State) : (s.rxEmit item).cmds = s.cmds := rfl
@[simp] theorem State.rxEmit_timeIn (item : RxItem) (s : State) : (s.rxEmit item).timeIn = s.timeIn := rfl
@[simp] theorem State.rxEmit_draws (item : RxItem) (s : State) : (s.rxEmit item).draws = s.draws := rfl
@[simp] theorem State.rxEmit_params (item : RxItem) (s : State) : (s.rxEmit item).params = s.params := rfl

/-! `State.rxByte` -/

@[simp] theorem State.rxByte_crc (b : Byte) (s : State) : (s.rxByte b).crc = s.crc := rfl
@[simp] theorem State.rxByte_encBuf (b : Byte) (s : State) : (s.rxByte b).encBuf = s.encBuf := rfl
@[simp] theorem State.rxByte_encFull (b : Byte) (s : State) : (s.rxByte b).encFull = s.encFull := rfl
@[simp] theorem State.rxByte_decRem (b : Byte) (s : State) : (s.rxByte b).decRem = s.decRem := rfl
@[simp] theorem State.rxByte_decZero (b : Byte) (s : State) : (s.rxByte b).decZero = s.decZero := rfl
@[simp] theorem State.rxByte_decMid (b : Byte) (s : State) : (s.rxByte b).decMid = s.decMid := rfl
@[simp] theorem State.rxByte_iwInterval (b : Byte) (s : State) : (s.rxByte b).iwInterval = s.iwInterval := rfl
@[simp] theorem State.rxByte_iwDeadline (b : Byte) (s : State) : (s.rxByte b).iwDeadline = s.iwDeadline := rfl
@[simp] theorem State.rxByte_iwNow (b : Byte) (s : State) : (s.rxByte b).iwNow = s.iwNow := rfl
@[simp] theorem State.rxByte_status (b : Byte) (s : State) : (s.rxByte b).status = s.status := rfl
@[simp] theorem State.rxByte_tx (b : Byte) (s : State) : (s.rxByte b).tx = s.tx := rfl
@[simp] theorem State.rxByte_rx (b : Byte) (s : State) : (s.rxByte b).rx = s.rx ++ [.byte b] := rfl
@[simp] theorem State.rxByte_res (b : Byte) (s : State) : (s.rxByte b).res = s.res := rfl
@[simp] theorem State.rxByte_outcome (b : Byte) (s : State) : (s.rxByte b).outcome = s.outcome := rfl
@[simp] theorem State.rxByte_cmds (b : Byte) (s : State) : (s.rxByte b).cmds = s.cmds := rfl
@[simp] theorem State.rxByte_timeIn (b : Byte) (s : State) : (s.rxByte b).timeIn = s.timeIn := rfl
@[simp] theorem State.rxByte_draws (b : Byte) (s : State) : (s.rxByte b).draws = s.draws := rfl
@[simp] theorem State.rxByte_params (b : Byte) (s : State) : (s.rxByte b).params = s.params := rfl

/-! `State.rxEnd` -/

@[simp] theorem State.rxEnd_crc (st : FrameStatus) (s : State) : (s.rxEnd st).crc = s.crc := rfl
@[simp] theorem State.rxEnd_encBuf (st : FrameStatus) (s : State) : (s.rxEnd st).encBuf = s.encBuf := rfl
@[simp] theorem State.rxEnd_encFull (st : FrameStatus) (s : State) : (s.rxEnd st).encFull = s.encFull := rfl
@[simp] theorem State.rxEnd_decRem (st : FrameStatus) (s : State) : (s.rxEnd st).decRem = s.decRem := rfl
@[simp] theorem State.rxEnd_decZero (st : FrameStatus) (s : State) : (s.rxEnd st).decZero = s.decZero := rfl
@[simp] theorem State.rxEnd_decMid (st : FrameStatus) (s : State) : (s.rxEnd st).decMid = s.decMid := rfl
@[simp] theorem State.rxEnd_iwInterval (st : FrameStatus) (s : State) : (s.rxEnd st).iwInterval = s.iwInterval := rfl
@[simp] theorem State.rxEnd_iwDeadline (st : FrameStatus) (s : State) : (s.rxEnd st).iwDeadline = s.iwDeadline := rfl
@[simp] theorem State.rxEnd_iwNow (st : FrameStatus) (s : State) : (s.rxEnd st).iwNow = s.iwNow := rfl
@[simp] theorem State.rxEnd_status (st : FrameStatus) (s : State) : (s.rxEnd st).status = s.status := rfl
@[simp] theorem State.rxEnd_tx (st : FrameStatus) (s : State) : (s.rxEnd st).tx = s.tx := rfl
@[simp] theorem State.rxEnd_rx (st : FrameStatus) (s : State) : (s.rxEnd st).rx = s.rx ++ [.endFrame st] := rfl
@[simp] theorem State.rxEnd_res (st : FrameStatus) (s : State) : (s.rxEnd st).res = s.res := rfl
@[simp] theorem State.rxEnd_outcome (st : FrameStatus) (s : State) : (s.rxEnd st).outcome = s.outcome := rfl
@[simp] theorem State.rxEnd_cmds (st : FrameStatus) (s : State) : (s.rxEnd st).cmds = s.cmds := rfl
@[simp] theorem State.rxEnd_timeIn (st : FrameStatus) (s : State) : (s.rxEnd st).timeIn = s.timeIn := rfl
@[simp] theorem State.rxEnd_draws (st : FrameStatus) (s : State) : (s.rxEnd st).draws = s.draws := rfl
@[simp] theorem State.rxEnd_params (st : FrameStatus) (s : State) : (s.rxEnd st).params = s.params := rfl

/-! `State.setErr` -/

@[simp] theorem State.setErr_crc (e : Err) (s : State) : (s.setErr e).crc = s.crc := rfl
@[simp] theorem State.setErr_encBuf (e : Err) (s : State) : (s.setErr e).encBuf = s.encBuf := rfl
@[simp] theorem State.setErr_encFull (e : Err) (s : State) : (s.setErr e).encFull = s.encFull := rfl
@[simp] theorem State.setErr_decRem (e : Err) (s : State) : (s.setErr e).decRem = s.decRem := rfl
@[simp] theorem State.setErr_decZero (e : Err) (s : State) : (s.setErr e).decZero = s.decZero := rfl
@[simp] theorem State.setErr_decMid (e : Err) (s : State) : (s.setErr e).decMid = s.decMid := rfl
@[simp] theorem State.setErr_iwInterval (e : Err) (s : State) : (s.setErr e).iwInterval = s.iwInterval := rfl
@[simp] theorem State.setErr_iwDeadline (e : Err) (s : State) : (s.setErr e).iwDeadline = s.iwDeadline := rfl
@[simp] theorem State.setErr_iwNow (e : Err) (s : State) : (s.setErr e).iwNow = s.iwNow := rfl
@[simp] theorem State.setErr_status (e : Err) (s : State) : (s.setErr e).status = setStatus e s.status := rfl
@[simp] theorem State.setErr_tx (e : Err) (s : State) : (s.setErr e).tx = s.tx := rfl
@[simp] theorem State.setErr_rx (e : Err) (s : State) : (s.setErr e).rx = s.rx := rfl
@[simp] theorem State.setErr_res (e : Err) (s : State) : (s.setErr e).res = s.res := rfl
@[simp] theorem State.setErr_outcome (e : Err) (s : State) : (s.setErr e).outcome = s.outcome := rfl
@[simp] theorem State.setErr_cmds (e : Err) (s : State) : (s.setErr e).cmds = s.cmds := rfl
@[simp] theorem State.setErr_timeIn (e : Err) (s : State) : (s.setErr e).timeIn = s.timeIn := rfl
@[simp] theorem State.setErr_draws (e : Err) (s : State) : (s.setErr e).draws = s.draws := rfl
@[simp] theorem State.setErr_params (e : Err) (s : State) : (s.setErr e).params = s.params := rfl

/-! `State.takeSample` -/

@[simp] theorem State.takeSample_crc (s : State) : (s.takeSample).crc = s.crc := rfl
@[simp] theorem State.takeSample_encBuf (s : State) : (s.takeSample).encBuf = s.encBuf := rfl
@[simp] theorem State.takeSample_encFull (s : State) : (s.takeSample).encFull = s.encFull := rfl
@[simp] theorem State.takeSample_decRem (s : State) : (s.takeSample).decRem = s.decRem := rfl
@[simp] theorem State.takeSample_decZero (s : State) : (s.takeSample).decZero = s.decZero := rfl
@[simp] theorem State.takeSample_decMid (s : State) : (s.takeSample).decMid = s.decMid := rfl
@[simp] theorem State.takeSample_iwInterval (s : State) : (s.takeSample).iwInterval = s.iwInterval := rfl
@[simp] theorem State.takeSample_iwDeadline (s : State) : (s.takeSample).iwDeadline = s.iwDeadline := rfl
@[simp] theorem State.takeSample_iwNow (s : State) : (s.takeSample).iwNow = s.iwNow := rfl
@[simp] theorem State.takeSample_status (s : State) : (s.takeSample).status = s.status := rfl
@[simp] theorem State.takeSample_tx (s : State) : (s.takeSample).tx = s.tx := rfl
@[simp] theorem State.takeSample_rx (s : State) : (s.takeSample).rx = s.rx := rfl
@[simp] theorem State.takeSample_res (s : State) : (s.takeSample).res = s.res := rfl
@[simp] theorem State.takeSample_outcome (s : State) : (s.takeSample).outcome = s.outcome := rfl
@[simp] theorem State.takeSample_cmds (s : State) : (s.takeSample).cmds = s.cmds := rfl
@[simp] theorem State.takeSample_timeIn (s : State) : (s.takeSample).timeIn = s.timeIn.tail := rfl
@[simp] theorem State.takeSample_draws (s : State) : (s.takeSample).draws = if s.timeIn.isEmpty then s.draws + 1 else s.draws := rfl
@[simp] theorem State.takeSample_params (s : State) : (s.takeSample).params = s.params := rfl

/-! `State.finish` -/

@[simp] theorem State.finish_crc (o : CmdOutcome) (r : Option Word) (s : State) : (s.finish o r).crc = s.crc := rfl
@[simp] theorem State.finish_encBuf (o : CmdOutcome) (r : Option Word) (s : State) : (s.finish o r).encBuf = s.encBuf := rfl
@[simp] theorem State.finish_encFull (o : CmdOutcome) (r : Option Word) (s : State) : (s.finish o r).encFull = s.encFull := rfl
@[simp] theorem State.finish_decRem (o : CmdOutcome) (r : Option Word) (s : State) : (s.finish o r).decRem = s.decRem := rfl
@[simp] theorem State.finish_decZero (o : CmdOutcome) (r : Option Word) (s : State) : (s.finish o r).decZero = s.decZero := rfl
@[simp] theorem State.finish_decMid (o : CmdOutcome) (r : Option Word) (s : State) : (s.finish o r).decMid = s.decMid := rfl
@[simp] theorem State.finish_iwInterval (o : CmdOutcome) (r : Option Word) (s : State) : (s.finish o r).iwInterval = s.iwInterval := rfl
@[simp] theorem State.finish_iwDeadline (o : CmdOutcome) (r : Option Word) (s : State) : (s.finish o r).iwDeadline = s.iwDeadline := rfl
@[simp] theorem State.finish_iwNow (o : CmdOutcome) (r : Option Word) (s : State) : (s.finish o r).iwNow = s.iwNow := rfl
@[simp] theorem State.finish_status (o : CmdOutcome) (r : Option Word) (s : State) : (s.finish o r).status = s.status := rfl
@[simp] theorem State.finish_tx (o : CmdOutcome) (r : Option Word) (s : State) : (s.finish o r).tx = s.tx := rfl
@[simp] theorem State.finish_rx (o : CmdOutcome) (r : Option Word) (s : State) : (s.finish o r).rx = s.rx := rfl
@[simp] theorem State.finish_res (o : CmdOutcome) (r : Option Word) (s : State) : (s.finish o r).res = r := rfl
@[simp] theorem State.finish_outcome (o : CmdOutcome) (r : Option Word) (s : State) : (s.finish o r).outcome = o := rfl
@[simp] theorem State.finish_cmds (o : CmdOutcome) (r : Option Word) (s : State) : (s.finish o r).cmds = s.cmds := rfl
@[simp] theorem State.finish_timeIn (o : CmdOutcome) (r : Option Word) (s : State) : (s.finish o r).timeIn = s.timeIn := rfl
@[simp] theorem State.finish_draws (o : CmdOutcome) (r : Option Word) (s : State) : (s.finish o r).draws = s.draws := rfl
@[simp] theorem State.finish_params (o : CmdOutcome) (r : Option Word) (s : State) : (s.finish o r).params = s.params := rfl

/-! `resetBlock` -/

@[simp] theorem resetBlock_crc (s : State) : (resetBlock s).crc = 0#16 := rfl
@[simp] theorem resetBlock_encBuf (s : State) : (resetBlock s).encBuf = [] := rfl
@[simp] theorem resetBlock_encFull (s : State) : (resetBlock s).encFull = false := rfl
@[simp] theorem resetBlock_decRem (s : State) : (resetBlock s).decRem = 0#8 := rfl
@[simp] theorem resetBlock_decZero (s : State) : (resetBlock s).decZero = false := rfl
@[simp] theorem resetBlock_decMid (s : State) : (resetBlock s).decMid = false := rfl
@[simp] theorem resetBlock_iwInterval (s : State) : (resetBlock s).iwInterval = 0#32 := rfl
@[simp] theorem resetBlock_iwDeadline (s : State) : (resetBlock s).iwDeadline = 0#32 := rfl
@[simp] theorem resetBlock_iwNow (s : State) : (resetBlock s).iwNow = 0#32 := rfl
@[simp] theorem resetBlock_status (s : State) : (resetBlock s).status = 0#4 := rfl
@[simp] theorem resetBlock_tx (s : State) : (resetBlock s).tx = [] := rfl
@[simp] theorem resetBlock_rx (s : State) : (resetBlock s).rx = [] := rfl
@[simp] theorem resetBlock_res (s : State) : (resetBlock s).res = s.res := rfl
@[simp] theorem resetBlock_outcome (s : State) : (resetBlock s).outcome = s.outcome := rfl
@[simp] theorem resetBlock_cmds (s : State) : (resetBlock s).cmds = s.cmds := rfl
@[simp] theorem resetBlock_timeIn (s : State) : (resetBlock s).timeIn = s.timeIn := rfl
@[simp] theorem resetBlock_draws (s : State) : (resetBlock s).draws = s.draws := rfl
@[simp] theorem resetBlock_params (s : State) : (resetBlock s).params = s.params := rfl

/-! `decIdled` -/

@[simp] theorem decIdled_crc (s : State) : (decIdled s).crc = s.crc := rfl
@[simp] theorem decIdled_encBuf (s : State) : (decIdled s).encBuf = s.encBuf := rfl
@[simp] theorem decIdled_encFull (s : State) : (decIdled s).encFull = s.encFull := rfl
@[simp] theorem decIdled_decRem (s : State) : (decIdled s).decRem = 0#8 := rfl
@[simp] theorem decIdled_decZero (s : State) : (decIdled s).decZero = false := rfl
@[simp] theorem decIdled_decMid (s : State) : (decIdled s).decMid = false := rfl
@[simp] theorem decIdled_iwInterval (s : State) : (decIdled s).iwInterval = s.iwInterval := rfl
@[simp] theorem decIdled_iwDeadline (s : State) : (decIdled s).iwDeadline = s.iwDeadline := rfl
@[simp] theorem decIdled_iwNow (s : State) : (decIdled s).iwNow = s.iwNow := rfl
@[simp] theorem decIdled_status (s : State) : (decIdled s).status = s.status := rfl
@[simp] theorem decIdled_tx (s : State) : (decIdled s).tx = s.tx := rfl
@[simp] theorem decIdled_rx (s : State) : (decIdled s).rx = s.rx := rfl
@[simp] theorem decIdled_res (s : State) : (decIdled s).res = s.res := rfl
@[simp] theorem decIdled_outcome (s : State) : (decIdled s).outcome = s.outcome := rfl
@[simp] theorem decIdled_cmds (s : State) : (decIdled s).cmds = s.cmds := rfl
@[simp] theorem decIdled_timeIn (s : State) : (decIdled s).timeIn = s.timeIn := rfl
@[simp] theorem decIdled_draws (s : State) : (decIdled s).draws = s.draws := rfl
@[simp] theorem decIdled_params (s : State) : (decIdled s).params = s.params := rfl

/-! `decBegin` -/

@[simp] theorem decBegin_crc (e : Byte) (s : State) : (decBegin e s).crc = s.crc := rfl
@[simp] theorem decBegin_encBuf (e : Byte) (s : State) : (decBegin e s).encBuf = s.encBuf := rfl
@[simp] theorem decBegin_encFull (e : Byte) (s : State) : (decBegin e s).encFull = s.encFull := rfl
@[simp] theorem decBegin_decRem (e : Byte) (s : State) : (decBegin e s).decRem = e - 1#8 := rfl
@[simp] theorem decBegin_decZero (e : Byte) (s : State) : (decBegin e s).decZero = (e != 0xFF#8) := rfl
@[simp] theorem decBegin_decMid (e : Byte) (s : State) : (decBegin e s).decMid = true := rfl
@[simp] theorem decBegin_iwInterval (e : Byte) (s : State) : (decBegin e s).iwInterval = s.iwInterval := rfl
@[simp] theorem decBegin_iwDeadline (e : Byte) (s : State) : (decBegin e s).iwDeadline = s.iwDeadline := rfl
@[simp] theorem decBegin_iwNow (e : Byte) (s : State) : (decBegin e s).iwNow = s.iwNow := rfl
@[simp] theorem decBegin_status (e : Byte) (s : State) : (decBegin e s).status = s.status := rfl
@[simp] theorem decBegin_tx (e : Byte) (s : State) : (decBegin e s).tx = s.tx := rfl
@[simp] theorem decBegin_rx (e : Byte) (s : State) : (decBegin e s).rx = s.rx := rfl
@[simp] theorem decBegin_res (e : Byte) (s : State) : (decBegin e s).res = s.res := rfl
@[simp] theorem decBegin_outcome (e : Byte) (s : State) : (decBegin e s).outcome = s.outcome := rfl
@[simp] theorem decBegin_cmds (e : Byte) (s : State) : (decBegin e s).cmds = s.cmds := rfl
@[simp] theorem decBegin_timeIn (e : Byte) (s : State) : (decBegin e s).timeIn = s.timeIn := rfl
@[simp] theorem decBegin_draws (e : Byte) (s : State) : (decBegin e s).draws = s.draws := rfl
@[simp] theorem decBegin_params (e : Byte) (s : State) : (decBegin e s).params = s.params := rfl

/-! `decData` -/

@[simp] theorem decData_crc (e : Byte) (s : State) : (decData e s).crc = s.crc := rfl
@[simp] theorem decData_encBuf (e : Byte) (s : State) : (decData e s).encBuf = s.encBuf := rfl
@[simp] theorem decData_encFull (e : Byte) (s : State) : (decData e s).encFull = s.encFull := rfl
@[simp] theorem decData_decRem (e : Byte) (s : State) : (decData e s).decRem = s.decRem - 1#8 := rfl
@[simp] theorem decData_decZero (e : Byte) (s : State) : (decData e s).decZero = s.decZero := rfl
@[simp] theorem decData_decMid (e : Byte) (s : State) : (decData e s).decMid = s.decMid := rfl
@[simp] theorem decData_iwInterval (e : Byte) (s : State) : (decData e s).iwInterval = s.iwInterval := rfl
@[simp] theorem decData_iwDeadline (e : Byte) (s : State) : (decData e s).iwDeadline = s.iwDeadline := rfl
@[simp] theorem decData_iwNow (e : Byte) (s : State) : (decData e s).iwNow = s.iwNow := rfl
@[simp] theorem decData_status (e : Byte) (s : State) : (decData e s).status = s.status := rfl
@[simp] theorem decData_tx (e : Byte) (s : State) : (decData e s).tx = s.tx := rfl
@[simp] theorem decData_rx (e : Byte) (s : State) : (decData e s).rx = s.rx ++ [.byte e] := rfl
@[simp] theorem decData_res (e : Byte) (s : State) : (decData e s).res = s.res := rfl
@[simp] theorem decData_outcome (e : Byte) (s : State) : (decData e s).outcome = s.outcome := rfl
@[simp] theorem decData_cmds (e : Byte) (s : State) : (decData e s).cmds = s.cmds := rfl
@[simp] theorem decData_timeIn (e : Byte) (s : State) : (decData e s).timeIn = s.timeIn := rfl
@[simp] theorem decData_draws (e : Byte) (s : State) : (decData e s).draws = s.draws := rfl
@[simp] theorem decData_params (e : Byte) (s : State) : (decData e s).params = s.params := rfl

/-! `crcClr` -/

@[simp] theorem crcClr_crc (s : State) : (crcClr s).crc = 0#16 := rfl
@[simp] theorem crcClr_encBuf (s : State) : (crcClr s).encBuf = s.encBuf := rfl
@[simp] theorem crcClr_encFull (s : State) : (crcClr s).encFull = s.encFull := rfl
@[simp] theorem crcClr_decRem (s : State) : (crcClr s).decRem = s.decRem := rfl
@[simp] theorem crcClr_decZero (s : State) : (crcClr s).decZero = s.decZero := rfl
@[simp] theorem crcClr_decMid (s : State) : (crcClr s).decMid = s.decMid := rfl
@[simp] theorem crcClr_iwInterval (s : State) : (crcClr s).iwInterval = s.iwInterval := rfl
@[simp] theorem crcClr_iwDeadline (s : State) : (crcClr s).iwDeadline = s.iwDeadline := rfl
@[simp] theorem crcClr_iwNow (s : State) : (crcClr s).iwNow = s.iwNow := rfl
@[simp] theorem crcClr_status (s : State) : (crcClr s).status = s.status := rfl
@[simp] theorem crcClr_tx (s : State) : (crcClr s).tx = s.tx := rfl
@[simp] theorem crcClr_rx (s : State) : (crcClr s).rx = s.rx := rfl
@[simp] theorem crcClr_res (s : State) : (crcClr s).res = s.res := rfl
@[simp] theorem crcClr_outcome (s : State) : (crcClr s).outcome = s.outcome := rfl
@[simp] theorem crcClr_cmds (s : State) : (crcClr s).cmds = s.cmds := rfl
@[simp] theorem crcClr_timeIn (s : State) : (crcClr s).timeIn = s.timeIn := rfl
@[simp] theorem crcClr_draws (s : State) : (crcClr s).draws = s.draws := rfl
@[simp] theorem crcClr_params (s : State) : (crcClr s).params = s.params := rfl

/-! `crcUpd` -/

@[simp] theorem crcUpd_crc (b : Byte) (s : State) : (crcUpd b s).crc = crc16Update s.crc b := rfl
@[simp] theorem crcUpd_encBuf (b : Byte) (s : State) : (crcUpd b s).encBuf = s.encBuf := rfl
@[simp] theorem crcUpd_encFull (b : Byte) (s : State) : (crcUpd b s).encFull = s.encFull := rfl
@[simp] theorem crcUpd_decRem (b : Byte) (s : State) : (crcUpd b s).decRem = s.decRem := rfl
@[simp] theorem crcUpd_decZero (b : Byte) (s : State) : (crcUpd b s).decZero = s.decZero := rfl
@[simp] theorem crcUpd_decMid (b : Byte) (s : State) : (crcUpd b s).decMid = s.decMid := rfl
@[simp] theorem crcUpd_iwInterval (b : Byte) (s : State) : (crcUpd b s).iwInterval = s.iwInterval := rfl
@[simp] theorem crcUpd_iwDeadline (b : Byte) (s : State) : (crcUpd b s).iwDeadline = s.iwDeadline := rfl
@[simp] theorem crcUpd_iwNow (b : Byte) (s : State) : (crcUpd b s).iwNow = s.iwNow := rfl
@[simp] theorem crcUpd_status (b : Byte) (s : State) : (crcUpd b s).status = s.status := rfl
@[simp] theorem crcUpd_tx (b : Byte) (s : State) : (crcUpd b s).tx = s.tx := rfl
@[simp] theorem crcUpd_rx (b : Byte) (s : State) : (crcUpd b s).rx = s.rx := rfl
@[simp] theorem crcUpd_res (b : Byte) (s : State) : (crcUpd b s).res = s.res := rfl
@[simp] theorem crcUpd_outcome (b : Byte) (s : State) : (crcUpd b s).outcome = s.outcome := rfl
@[simp] theorem crcUpd_cmds (b : Byte) (s : State) : (crcUpd b s).cmds = s.cmds := rfl
@[simp] theorem crcUpd_timeIn (b : Byte) (s : State) : (crcUpd b s).timeIn = s.timeIn := rfl
@[simp] theorem crcUpd_draws (b : Byte) (s : State) : (crcUpd b s).draws = s.draws := rfl
@[simp] theorem crcUpd_params (b : Byte) (s : State) : (crcUpd b s).params = s.params := rfl

/-! `encDelim` -/

@[simp] theorem encDelim_crc (s : State) : (encDelim s).crc = s.crc := rfl
@[simp] theorem encDelim_encBuf (s : State) : (encDelim s).encBuf = s.encBuf := rfl
@[simp] theorem encDelim_encFull (s : State) : (encDelim s).encFull = s.encFull := rfl
@[simp] theorem encDelim_decRem (s : State) : (encDelim s).decRem = s.decRem := rfl
@[simp] theorem encDelim_decZero (s : State) : (encDelim s).decZero = s.decZero := rfl
@[simp] theorem encDelim_decMid (s : State) : (encDelim s).decMid = s.decMid := rfl
@[simp] theorem encDelim_iwInterval (s : State) : (encDelim s).iwInterval = s.iwInterval := rfl
@[simp] theorem encDelim_iwDeadline (s : State) : (encDelim s).iwDeadline = s.iwDeadline := rfl
@[simp] theorem encDelim_iwNow (s : State) : (encDelim s).iwNow = s.iwNow := rfl
@[simp] theorem encDelim_status (s : State) : (encDelim s).status = s.status := rfl
@[simp] theorem encDelim_tx (s : State) : (encDelim s).tx = s.tx ++ [0x00#8] := rfl
@[simp] theorem encDelim_rx (s : State) : (encDelim s).rx = s.rx := rfl
@[simp] theorem encDelim_res (s : State) : (encDelim s).res = s.res := rfl
@[simp] theorem encDelim_outcome (s : State) : (encDelim s).outcome = s.outcome := rfl
@[simp] theorem encDelim_cmds (s : State) : (encDelim s).cmds = s.cmds := rfl
@[simp] theorem encDelim_timeIn (s : State) : (encDelim s).timeIn = s.timeIn := rfl
@[simp] theorem encDelim_draws (s : State) : (encDelim s).draws = s.draws := rfl
@[simp] theorem encDelim_params (s : State) : (encDelim s).params = s.params := rfl

/-! `pollState` -/

@[simp] theorem pollState_crc (s : State) : (pollState s).crc = s.crc := rfl
@[simp] theorem pollState_encBuf (s : State) : (pollState s).encBuf = s.encBuf := rfl
@[simp] theorem pollState_encFull (s : State) : (pollState s).encFull = s.encFull := rfl
@[simp] theorem pollState_decRem (s : State) : (pollState s).decRem = s.decRem := rfl
@[simp] theorem pollState_decZero (s : State) : (pollState s).decZero = s.decZero := rfl
@[simp] theorem pollState_decMid (s : State) : (pollState s).decMid = s.decMid := rfl
@[simp] theorem pollState_iwInterval (s : State) : (pollState s).iwInterval = s.iwInterval := rfl
@[simp] theorem pollState_iwDeadline (s : State) : (pollState s).iwDeadline = (iwNext s.iwInterval s.iwDeadline s.nextSample).2 := rfl
@[simp] theorem pollState_iwNow (s : State) : (pollState s).iwNow = s.nextSample := rfl
@[simp] theorem pollState_status (s : State) : (pollState s).status = s.status := rfl
@[simp] theorem pollState_tx (s : State) : (pollState s).tx = s.tx := rfl
@[simp] theorem pollState_rx (s : State) : (pollState s).rx = s.rx := rfl
@[simp] theorem pollState_res (s : State) : (pollState s).res = s.res := rfl
@[simp] theorem pollState_outcome (s : State) : (pollState s).outcome = s.outcome := rfl
@[simp] theorem pollState_cmds (s : State) : (pollState s).cmds = s.cmds := rfl
@[simp] theorem pollState_timeIn (s : State) : (pollState s).timeIn = s.timeIn.tail := rfl
@[simp] theorem pollState_draws (s : State) : (pollState s).draws = if s.timeIn.isEmpty then s.draws + 1 else s.draws := rfl
@[simp] theorem pollState_params (s : State) : (pollState s).params = s.params := rfl

end Sys2Proof.Machine
end

