-- ==== Sys2Proof/Laws/Effects.lean ====
section
/-! SUPPORT. The fields that the conditional updates leave alone, whichever branch they take. -/

namespace Sys2Proof.Machine

/-! `State.advance` -/

@[simp] theorem State.advance_crc (s : State) : (s.advance).crc = s.crc := by unfold State.advance; split <;> rfl
@[simp] theorem State.advance_encBuf (s : State) : (s.advance).encBuf = s.encBuf := by unfold State.advance; split <;> rfl
@[simp] theorem State.advance_encFull (s : State) : (s.advance).encFull = s.encFull := by unfold State.advance; split <;> rfl
@[simp] theorem State.advance_decRem (s : State) : (s.advance).decRem = s.decRem := by unfold State.advance; split <;> rfl
@[simp] theorem State.advance_decZero (s : State) : (s.advance).decZero = s.decZero := by unfold State.advance; split <;> rfl
@[simp] theorem State.advance_decMid (s : State) : (s.advance).decMid = s.decMid := by unfold State.advance; split <;> rfl
@[simp] theorem State.advance_iwInterval (s : State) : (s.advance).iwInterval = s.iwInterval := by unfold State.advance; split <;> rfl
@[simp] theorem State.advance_iwDeadline (s : State) : (s.advance).iwDeadline = s.iwDeadline := by unfold State.advance; split <;> rfl
@[simp] theorem State.advance_iwNow (s : State) : (s.advance).iwNow = s.iwNow := by unfold State.advance; split <;> rfl
@[simp] theorem State.advance_status (s : State) : (s.advance).status = s.status := by unfold State.advance; split <;> rfl
@[simp] theorem State.advance_tx (s : State) : (s.advance).tx = s.tx := by unfold State.advance; split <;> rfl
@[simp] theorem State.advance_rx (s : State) : (s.advance).rx = s.rx := by unfold State.advance; split <;> rfl
@[simp] theorem State.advance_res (s : State) : (s.advance).res = s.res := by unfold State.advance; split <;> rfl
@[simp] theorem State.advance_outcome (s : State) : (s.advance).outcome = s.outcome := by unfold State.advance; split <;> rfl
@[simp] theorem State.advance_timeIn (s : State) : (s.advance).timeIn = s.timeIn := by unfold State.advance; split <;> rfl
@[simp] theorem State.advance_draws (s : State) : (s.advance).draws = s.draws := by unfold State.advance; split <;> rfl
@[simp] theorem State.advance_params (s : State) : (s.advance).params = s.params := by unfold State.advance; split <;> rfl

/-! `encPush` -/

@[simp] theorem encPush_crc (b : Byte) (s : State) : (encPush b s).crc = s.crc := by unfold encPush; (repeat' split) <;> rfl
@[simp] theorem encPush_decRem (b : Byte) (s : State) : (encPush b s).decRem = s.decRem := by unfold encPush; (repeat' split) <;> rfl
@[simp] theorem encPush_decZero (b : Byte) (s : State) : (encPush b s).decZero = s.decZero := by unfold encPush; (repeat' split) <;> rfl
@[simp] theorem encPush_decMid (b : Byte) (s : State) : (encPush b s).decMid = s.decMid := by unfold encPush; (repeat' split) <;> rfl
@[simp] theorem encPush_iwInterval (b : Byte) (s : State) : (encPush b s).iwInterval = s.iwInterval := by unfold encPush; (repeat' split) <;> rfl
@[simp] theorem encPush_iwDeadline (b : Byte) (s : State) : (encPush b s).iwDeadline = s.iwDeadline := by unfold encPush; (repeat' split) <;> rfl
@[simp] theorem encPush_iwNow (b : Byte) (s : State) : (encPush b s).iwNow = s.iwNow := by unfold encPush; (repeat' split) <;> rfl
@[simp] theorem encPush_status (b : Byte) (s : State) : (encPush b s).status = s.status := by unfold encPush; (repeat' split) <;> rfl
@[simp] theorem encPush_rx (b : Byte) (s : State) : (encPush b s).rx = s.rx := by unfold encPush; (repeat' split) <;> rfl
@[simp] theorem encPush_res (b : Byte) (s : State) : (encPush b s).res = s.res := by unfold encPush; (repeat' split) <;> rfl
@[simp] theorem encPush_outcome (b : Byte) (s : State) : (encPush b s).outcome = s.outcome := by unfold encPush; (repeat' split) <;> rfl
@[simp] theorem encPush_cmds (b : Byte) (s : State) : (encPush b s).cmds = s.cmds := by unfold encPush; (repeat' split) <;> rfl
@[simp] theorem encPush_timeIn (b : Byte) (s : State) : (encPush b s).timeIn = s.timeIn := by unfold encPush; (repeat' split) <;> rfl
@[simp] theorem encPush_draws (b : Byte) (s : State) : (encPush b s).draws = s.draws := by unfold encPush; (repeat' split) <;> rfl
@[simp] theorem encPush_params (b : Byte) (s : State) : (encPush b s).params = s.params := by unfold encPush; (repeat' split) <;> rfl

/-! `encEnd` -/

@[simp] theorem encEnd_crc (s : State) : (encEnd s).crc = s.crc := by unfold encEnd; split <;> rfl
@[simp] theorem encEnd_decRem (s : State) : (encEnd s).decRem = s.decRem := by unfold encEnd; split <;> rfl
@[simp] theorem encEnd_decZero (s : State) : (encEnd s).decZero = s.decZero := by unfold encEnd; split <;> rfl
@[simp] theorem encEnd_decMid (s : State) : (encEnd s).decMid = s.decMid := by unfold encEnd; split <;> rfl
@[simp] theorem encEnd_iwInterval (s : State) : (encEnd s).iwInterval = s.iwInterval := by unfold encEnd; split <;> rfl
@[simp] theorem encEnd_iwDeadline (s : State) : (encEnd s).iwDeadline = s.iwDeadline := by unfold encEnd; split <;> rfl
@[simp] theorem encEnd_iwNow (s : State) : (encEnd s).iwNow = s.iwNow := by unfold encEnd; split <;> rfl
@[simp] theorem encEnd_status (s : State) : (encEnd s).status = s.status := by unfold encEnd; split <;> rfl
@[simp] theorem encEnd_rx (s : State) : (encEnd s).rx = s.rx := by unfold encEnd; split <;> rfl
@[simp] theorem encEnd_res (s : State) : (encEnd s).res = s.res := by unfold encEnd; split <;> rfl
@[simp] theorem encEnd_outcome (s : State) : (encEnd s).outcome = s.outcome := by unfold encEnd; split <;> rfl
@[simp] theorem encEnd_cmds (s : State) : (encEnd s).cmds = s.cmds := by unfold encEnd; split <;> rfl
@[simp] theorem encEnd_timeIn (s : State) : (encEnd s).timeIn = s.timeIn := by unfold encEnd; split <;> rfl
@[simp] theorem encEnd_draws (s : State) : (encEnd s).draws = s.draws := by unfold encEnd; split <;> rfl
@[simp] theorem encEnd_params (s : State) : (encEnd s).params = s.params := by unfold encEnd; split <;> rfl

/-! `decPush` -/

@[simp] theorem decPush_crc (e : Byte) (s : State) : (decPush e s).crc = s.crc := by unfold decPush decDelimiter decCode decData decIdled decBegin; (repeat' split) <;> rfl
@[simp] theorem decPush_encBuf (e : Byte) (s : State) : (decPush e s).encBuf = s.encBuf := by unfold decPush decDelimiter decCode decData decIdled decBegin; (repeat' split) <;> rfl
@[simp] theorem decPush_encFull (e : Byte) (s : State) : (decPush e s).encFull = s.encFull := by unfold decPush decDelimiter decCode decData decIdled decBegin; (repeat' split) <;> rfl
@[simp] theorem decPush_iwInterval (e : Byte) (s : State) : (decPush e s).iwInterval = s.iwInterval := by unfold decPush decDelimiter decCode decData decIdled decBegin; (repeat' split) <;> rfl
@[simp] theorem decPush_iwDeadline (e : Byte) (s : State) : (decPush e s).iwDeadline = s.iwDeadline := by unfold decPush decDelimiter decCode decData decIdled decBegin; (repeat' split) <;> rfl
@[simp] theorem decPush_iwNow (e : Byte) (s : State) : (decPush e s).iwNow = s.iwNow := by unfold decPush decDelimiter decCode decData decIdled decBegin; (repeat' split) <;> rfl
@[simp] theorem decPush_tx (e : Byte) (s : State) : (decPush e s).tx = s.tx := by unfold decPush decDelimiter decCode decData decIdled decBegin; (repeat' split) <;> rfl
@[simp] theorem decPush_res (e : Byte) (s : State) : (decPush e s).res = s.res := by unfold decPush decDelimiter decCode decData decIdled decBegin; (repeat' split) <;> rfl
@[simp] theorem decPush_outcome (e : Byte) (s : State) : (decPush e s).outcome = s.outcome := by unfold decPush decDelimiter decCode decData decIdled decBegin; (repeat' split) <;> rfl
@[simp] theorem decPush_cmds (e : Byte) (s : State) : (decPush e s).cmds = s.cmds := by unfold decPush decDelimiter decCode decData decIdled decBegin; (repeat' split) <;> rfl
@[simp] theorem decPush_timeIn (e : Byte) (s : State) : (decPush e s).timeIn = s.timeIn := by unfold decPush decDelimiter decCode decData decIdled decBegin; (repeat' split) <;> rfl
@[simp] theorem decPush_draws (e : Byte) (s : State) : (decPush e s).draws = s.draws := by unfold decPush decDelimiter decCode decData decIdled decBegin; (repeat' split) <;> rfl
@[simp] theorem decPush_params (e : Byte) (s : State) : (decPush e s).params = s.params := by unfold decPush decDelimiter decCode decData decIdled decBegin; (repeat' split) <;> rfl

/-! `frmPush` -/

@[simp] theorem frmPush_decRem (b : Byte) (s : State) : (frmPush b s).decRem = s.decRem := by simp [frmPush]
@[simp] theorem frmPush_decZero (b : Byte) (s : State) : (frmPush b s).decZero = s.decZero := by simp [frmPush]
@[simp] theorem frmPush_decMid (b : Byte) (s : State) : (frmPush b s).decMid = s.decMid := by simp [frmPush]
@[simp] theorem frmPush_iwInterval (b : Byte) (s : State) : (frmPush b s).iwInterval = s.iwInterval := by simp [frmPush]
@[simp] theorem frmPush_iwDeadline (b : Byte) (s : State) : (frmPush b s).iwDeadline = s.iwDeadline := by simp [frmPush]
@[simp] theorem frmPush_iwNow (b : Byte) (s : State) : (frmPush b s).iwNow = s.iwNow := by simp [frmPush]
@[simp] theorem frmPush_status (b : Byte) (s : State) : (frmPush b s).status = s.status := by simp [frmPush]
@[simp] theorem frmPush_rx (b : Byte) (s : State) : (frmPush b s).rx = s.rx := by simp [frmPush]
@[simp] theorem frmPush_res (b : Byte) (s : State) : (frmPush b s).res = s.res := by simp [frmPush]
@[simp] theorem frmPush_outcome (b : Byte) (s : State) : (frmPush b s).outcome = s.outcome := by simp [frmPush]
@[simp] theorem frmPush_cmds (b : Byte) (s : State) : (frmPush b s).cmds = s.cmds := by simp [frmPush]
@[simp] theorem frmPush_timeIn (b : Byte) (s : State) : (frmPush b s).timeIn = s.timeIn := by simp [frmPush]
@[simp] theorem frmPush_draws (b : Byte) (s : State) : (frmPush b s).draws = s.draws := by simp [frmPush]
@[simp] theorem frmPush_params (b : Byte) (s : State) : (frmPush b s).params = s.params := by simp [frmPush]

/-! `frmEnd` -/

@[simp] theorem frmEnd_decRem (s : State) : (frmEnd s).decRem = s.decRem := by simp [frmEnd]
@[simp] theorem frmEnd_decZero (s : State) : (frmEnd s).decZero = s.decZero := by simp [frmEnd]
@[simp] theorem frmEnd_decMid (s : State) : (frmEnd s).decMid = s.decMid := by simp [frmEnd]
@[simp] theorem frmEnd_iwInterval (s : State) : (frmEnd s).iwInterval = s.iwInterval := by simp [frmEnd]
@[simp] theorem frmEnd_iwDeadline (s : State) : (frmEnd s).iwDeadline = s.iwDeadline := by simp [frmEnd]
@[simp] theorem frmEnd_iwNow (s : State) : (frmEnd s).iwNow = s.iwNow := by simp [frmEnd]
@[simp] theorem frmEnd_status (s : State) : (frmEnd s).status = s.status := by simp [frmEnd]
@[simp] theorem frmEnd_rx (s : State) : (frmEnd s).rx = s.rx := by simp [frmEnd]
@[simp] theorem frmEnd_res (s : State) : (frmEnd s).res = s.res := by simp [frmEnd]
@[simp] theorem frmEnd_outcome (s : State) : (frmEnd s).outcome = s.outcome := by simp [frmEnd]
@[simp] theorem frmEnd_cmds (s : State) : (frmEnd s).cmds = s.cmds := by simp [frmEnd]
@[simp] theorem frmEnd_timeIn (s : State) : (frmEnd s).timeIn = s.timeIn := by simp [frmEnd]
@[simp] theorem frmEnd_draws (s : State) : (frmEnd s).draws = s.draws := by simp [frmEnd]
@[simp] theorem frmEnd_params (s : State) : (frmEnd s).params = s.params := by simp [frmEnd]

/-- After ENC.END the encoder is idle (R93 corner case (d)). -/
@[simp] theorem encEnd_encBuf (s : State) : (encEnd s).encBuf = [] := by unfold encEnd; split <;> rfl
@[simp] theorem encEnd_encFull (s : State) : (encEnd s).encFull = false := by unfold encEnd; split <;> rfl

/-- FRM.PUSH feeds the CRC as CRC.UPD does (R121). -/
@[simp] theorem frmPush_crc (b : Byte) (s : State) : (frmPush b s).crc = crc16Update s.crc b := by simp [frmPush]

/-- FRM.END leaves the state a following record needs (R122). -/
@[simp] theorem frmEnd_crc (s : State) : (frmEnd s).crc = 0#16 := rfl
@[simp] theorem frmEnd_encBuf (s : State) : (frmEnd s).encBuf = [] := by simp [frmEnd]
@[simp] theorem frmEnd_encFull (s : State) : (frmEnd s).encFull = false := by simp [frmEnd]

/-- A delimiter leaves the decoder idle whatever came before (R102 corner case (f)). -/
@[simp] theorem decDelimiter_decRem (s : State) : (decDelimiter s).decRem = 0#8 := by unfold decDelimiter; (repeat' split) <;> rfl
@[simp] theorem decDelimiter_decZero (s : State) : (decDelimiter s).decZero = false := by unfold decDelimiter; (repeat' split) <;> rfl
@[simp] theorem decDelimiter_decMid (s : State) : (decDelimiter s).decMid = false := by unfold decDelimiter; (repeat' split) <;> rfl

end Sys2Proof.Machine
end

