-- ==== Sys2Proof/Laws/Ops.lean ====
section
/-! SUPPORT. What each shared operation of a step can answer, said once. -/

namespace Sys2Proof.Machine

/-! The outcomes of a command -/

@[simp] theorem State.done_next (s t : State) : s.done = .next t ↔ t = s.finish .done none := by
  simp [State.done, eq_comm]

@[simp] theorem State.result_next (v : Word) (s t : State) : s.result v = .next t ↔ t = s.finish .done (some v) := by
  simp [State.result, eq_comm]

@[simp] theorem State.hold_next (s t : State) : s.hold = .next t ↔ t = s.finish .held none := by
  simp [State.hold, eq_comm]

@[simp] theorem State.raise_next (e : Err) (s t : State) :
    s.raise e = .next t ↔ t = (s.setErr e).finish (.error e) none := by
  simp [State.raise, eq_comm]

@[simp] theorem retire_next (o : StepResult) (t : State) : retire o = .next t ↔ ∃ u, o = .next u ∧ t = u.advance := by
  cases o <;> simp [retire, eq_comm]

/-- A completed command makes way for the next word, a held one does not (R6, R136). -/
theorem State.advance_cmds (s : State) : s.advance.cmds = if s.outcome = .held then s.cmds else s.cmds.tail := by
  unfold State.advance; split <;> rfl

/-! STATUS -/

/-- Setting a bit sets that bit and no other (R32, R156). -/
theorem statusBit_setStatus (e f : Err) (v : BitVec 4) : statusBit e (setStatus f v) = (statusBit e v || e == f) := by
  revert v; cases e <;> cases f <;> decide

/-- A bit once set stays set (R32). -/
theorem setStatus_sticky (e : Err) (v : BitVec 4) : v &&& setStatus e v = v := by
  revert v; cases e <;> decide

/-! Samples -/

@[simp] theorem State.nextSample_listed (s : State) (now : Word) (rest : List Word) (h : s.timeIn = now :: rest) :
    s.nextSample = now := by simp [State.nextSample, h]

@[simp] theorem State.nextSample_free (s : State) (h : s.timeIn = []) : s.nextSample = Config.timeSample s.draws := by
  simp [State.nextSample, h]

/-- What the rounds of IW.WAIT can answer: done, with the state change of a poll that ticks after polls that did not, or
held after as many polls as there were rounds (R136). `pollState` run so many times: -/
def polls : Nat → State → State
  | 0, s => s
  | n + 1, s => polls n (pollState s)

theorem waitRounds_cases (n : Nat) (s : State) :
    (∃ k, k < n ∧ (∀ j, j < k → pollTick (polls j s) = false) ∧ pollTick (polls k s) = true ∧
      waitRounds n s = (polls (k + 1) s).result 1) ∨
    ((∀ j, j < n → pollTick (polls j s) = false) ∧ waitRounds n s = (polls n s).hold) := by
  induction n generalizing s with
  | zero => exact .inr ⟨by omega, rfl⟩
  | succ n ih =>
    by_cases h : pollTick s = true
    · exact .inl ⟨0, by omega, by omega, h, by simp [waitRounds, h, polls]⟩
    · have h0 : pollTick s = false := by simpa using h
      have first : ∀ m, (∀ j, j < m → pollTick (polls j (pollState s)) = false) →
          ∀ j, j < m + 1 → pollTick (polls j s) = false := by
        intro m hm j hj
        cases j with
        | zero => exact h0
        | succ j => exact hm j (by omega)
      rcases ih (pollState s) with ⟨k, hk, hb, ht, he⟩ | ⟨hb, he⟩
      · exact .inl ⟨k + 1, by omega, first k hb, ht, by simpa [waitRounds, h0, polls] using he⟩
      · exact .inr ⟨first n hb, by simpa [waitRounds, h0, polls] using he⟩

/-! The run a message ends with -/

@[simp] theorem trailingRun_append_zero (x : List Byte) : trailingRun (x ++ [0x00#8]) = 0 := by simp [trailingRun]

theorem trailingRun_append_nonzero (x : List Byte) (b : Byte) (h : b ≠ 0x00#8) :
    trailingRun (x ++ [b]) = trailingRun x + 1 := by simp [trailingRun, h]

/-! The tick function -/

theorem iwNext_of_le (interval deadline now : Word) (h : interval.toNat ≤ elapsed deadline now) :
    iwNext interval deadline now =
      (true, BitVec.ofNat 32 (deadline.toNat + elapsed deadline now / interval.toNat * interval.toNat)) := if_pos h

theorem iwNext_of_lt (interval deadline now : Word) (h : elapsed deadline now < interval.toNat) :
    iwNext interval deadline now = (false, deadline) := if_neg (by omega)

/-- A tick is exactly an interval elapsed (R131). -/
theorem iwNext_tick (interval deadline now : Word) :
    (iwNext interval deadline now).1 = decide (interval.toNat ≤ elapsed deadline now) := by
  rcases Nat.lt_or_ge (elapsed deadline now) interval.toNat with h | h
  · rw [iwNext_of_lt _ _ _ h]; simpa using h
  · rw [iwNext_of_le _ _ _ h]; simpa using h

/-- A poll that does not tick leaves the deadline (R131). -/
theorem pollState_deadline_of_no_tick (s : State) (h : pollTick s = false) : (pollState s).iwDeadline = s.iwDeadline := by
  rw [pollTick, iwNext_tick, decide_eq_false_iff_not] at h
  rw [pollState_iwDeadline, iwNext_of_lt _ _ _ (by omega)]

/-- One step: idle, an illegal word, or the decoded command (R52, R77). -/
theorem step_cases (s t : State) (h : step s = .next t) :
    (s.cmds = [] ∧ t = s) ∨
    (∃ w rest r, s.cmds = w :: rest ∧ decode w = .illegal r ∧ t = ((s.setErr .ill).finish (.error .ill) none).advance) ∨
    (∃ w rest i u, s.cmds = w :: rest ∧ decode w = .ok i ∧ exec i s = .next u ∧ t = u.advance) := by
  unfold step at h
  split at h
  · rename_i hc
    exact .inl ⟨hc, by simpa [eq_comm] using h⟩
  · rename_i w rest hc
    split at h
    · rename_i r hd
      obtain ⟨u, hu, rfl⟩ := (retire_next _ _).1 h
      exact .inr (.inl ⟨w, rest, r, hc, hd, by rw [(State.raise_next _ _ _).1 hu]⟩)
    · rename_i i hd
      obtain ⟨u, hu, rfl⟩ := (retire_next _ _).1 h
      exact .inr (.inr ⟨w, rest, i, u, hc, hd, hu, rfl⟩)

end Sys2Proof.Machine
end

