-- ==== Sys2Proof/Laws/PerInstr.lean ====
section
/-! SUPPORT. Family EncodedRow: the word of a command selects the row of the opcode map that has its mnemonic
(30_encoding.md R74). -/

namespace Sys2Proof.Laws

/-- A byte operand leaves the bits of its row's mask alone, whatever it is. -/
theorem commandWord_byte_masked (op b : Byte) :
    commandWord op (b.setWidth 32) &&& 0xFFFFFFFF00#40 = commandWord op 0#32 := by
  unfold commandWord
  apply BitVec.eq_of_getLsbD_eq
  intro k hk
  simp only [BitVec.getLsbD_and, BitVec.getLsbD_append, BitVec.getLsbD_setWidth]
  interval_cases k <;> simp

/-- A word operand leaves the opcode alone, whatever it is. -/
theorem commandWord_word_masked (op : Byte) (w : Word) : commandWord op w &&& 0xFF00000000#40 = commandWord op 0#32 := by
  unfold commandWord
  apply BitVec.eq_of_getLsbD_eq
  intro k hk
  simp only [BitVec.getLsbD_and, BitVec.getLsbD_append]
  interval_cases k <;> simp

/-- The low byte of a command word with a byte operand. -/
theorem commandWord_low_byte (op b : Byte) : (commandWord op (b.setWidth 32)).extractLsb' 0 8 = b := by
  unfold commandWord
  apply BitVec.eq_of_getLsbD_eq
  intro k hk
  simp only [BitVec.getLsbD_extractLsb', BitVec.getLsbD_append, BitVec.getLsbD_setWidth]
  interval_cases k <;> simp

/-- A word with a byte operand selects its row (R72, R74). -/
theorem selects_of_byte (m : String) (op b : Byte) (matched : CmdWord) (hw : commandWord op 0#32 = matched)
    (hm : m ≠ "REG.RD" ∨ b.toNat ≤ 6) : OpcodeRow.selects ⟨m, matched, 0xFFFFFFFF00#40⟩ (commandWord op (b.setWidth 32)) = true := by
  unfold OpcodeRow.selects
  rw [commandWord_byte_masked, commandWord_low_byte, hw]
  simpa using hm

end Sys2Proof.Laws

namespace Sys2Proof.Laws.EncodedRow

/-- The word of a well-formed command selects a row with the command's mnemonic. -/
def Statement (i : Instr) : Prop :=
  i.wellFormed = true → ∃ r ∈ opcodeTable, r.mnemonic = i.mnemonic ∧ r.selects (encode i) = true

theorem nop : Statement .nop := fun _ => ⟨⟨"NOP", 0x0000000000#40, 0xFFFFFFFFFF#40⟩, by decide, rfl, by decide⟩
theorem reset : Statement .reset := fun _ => ⟨⟨"RESET", 0x0100000000#40, 0xFFFFFFFFFF#40⟩, by decide, rfl, by decide⟩
theorem regRd (idx : Byte) : Statement (.regRd idx) := fun h =>
  ⟨⟨"REG.RD", 0x0200000000#40, 0xFFFFFFFF00#40⟩, by decide, rfl,
    selects_of_byte _ 0x02 _ _ (by decide) (.inr (by simpa [Instr.wellFormed] using h))⟩
theorem encPush (b : Byte) : Statement (.encPush b) := fun _ =>
  ⟨⟨"ENC.PUSH", 0x1000000000#40, 0xFFFFFFFF00#40⟩, by decide, rfl,
    selects_of_byte _ 0x10 _ _ (by decide) (.inl (by decide))⟩
theorem encEnd : Statement .encEnd := fun _ => ⟨⟨"ENC.END", 0x1100000000#40, 0xFFFFFFFFFF#40⟩, by decide, rfl, by decide⟩
theorem encDelim : Statement .encDelim := fun _ => ⟨⟨"ENC.DELIM", 0x1200000000#40, 0xFFFFFFFFFF#40⟩, by decide, rfl, by decide⟩
theorem decPush (e : Byte) : Statement (.decPush e) := fun _ =>
  ⟨⟨"DEC.PUSH", 0x2000000000#40, 0xFFFFFFFF00#40⟩, by decide, rfl,
    selects_of_byte _ 0x20 _ _ (by decide) (.inl (by decide))⟩
theorem crcClr : Statement .crcClr := fun _ => ⟨⟨"CRC.CLR", 0x3000000000#40, 0xFFFFFFFFFF#40⟩, by decide, rfl, by decide⟩
theorem crcUpd (b : Byte) : Statement (.crcUpd b) := fun _ =>
  ⟨⟨"CRC.UPD", 0x3100000000#40, 0xFFFFFFFF00#40⟩, by decide, rfl,
    selects_of_byte _ 0x31 _ _ (by decide) (.inl (by decide))⟩
theorem crcRd : Statement .crcRd := fun _ => ⟨⟨"CRC.RD", 0x3200000000#40, 0xFFFFFFFFFF#40⟩, by decide, rfl, by decide⟩
theorem frmPush (b : Byte) : Statement (.frmPush b) := fun _ =>
  ⟨⟨"FRM.PUSH", 0x4000000000#40, 0xFFFFFFFF00#40⟩, by decide, rfl,
    selects_of_byte _ 0x40 _ _ (by decide) (.inl (by decide))⟩
theorem frmEnd : Statement .frmEnd := fun _ => ⟨⟨"FRM.END", 0x4100000000#40, 0xFFFFFFFFFF#40⟩, by decide, rfl, by decide⟩
theorem iwCfg (w : Word) : Statement (.iwCfg w) := fun _ =>
  ⟨⟨"IW.CFG", 0x5000000000#40, 0xFF00000000#40⟩, by decide, rfl, by
    have hw : commandWord 0x50#8 w &&& 0xFF00000000#40 = 0x5000000000#40 := by rw [commandWord_word_masked]; decide
    have hm : ("IW.CFG" != "REG.RD") = true := by decide
    simp only [OpcodeRow.selects, encode, Instr.opcode, Instr.operand, hw, hm, beq_self_eq_true, Bool.true_or, Bool.and_true]⟩
theorem iwPoll : Statement .iwPoll := fun _ => ⟨⟨"IW.POLL", 0x5100000000#40, 0xFFFFFFFFFF#40⟩, by decide, rfl, by decide⟩
theorem iwWait : Statement .iwWait := fun _ => ⟨⟨"IW.WAIT", 0x5200000000#40, 0xFFFFFFFFFF#40⟩, by decide, rfl, by decide⟩

end Sys2Proof.Laws.EncodedRow
end

