-- ==== Sys2Proof/Tests/Slice0.lean ====
section
/-! SUPPORT. Tests: the expected results are the spec's own vectors (95_test_vectors.md, named in each comment) or worked out by hand
from its rules. After them, for each statement with hypotheses, a named state and operands that meet them. -/

namespace Sys2Proof.Tests

open Sys2Proof Sys2Proof.Machine

/-! ## Well-formedness and decoding -/

/-- The one check of WellFormed refuses an index above 6 (R75). -/
theorem test_wellFormed_refuses_index_7 : (Instr.regRd 7).wellFormed = false := by decide

theorem test_wellFormed_takes_index_6 : (Instr.regRd 6).wellFormed = true := by decide

/-- Words written bit by bit, `op` and then `arg` (R70, R74): one for each family. -/
theorem test_decode_bits :
    decode 0b00000010_00000000_00000000_00000000_00000101#40 = .ok (.regRd 5) ∧
    decode 0b00010000_00000000_00000000_00000000_10100101#40 = .ok (.encPush 0xA5) ∧
    decode 0b00100000_00000000_00000000_00000000_00000000#40 = .ok (.decPush 0x00) ∧
    decode 0b00110001_00000000_00000000_00000000_11111111#40 = .ok (.crcUpd 0xFF) ∧
    decode 0b01000001_00000000_00000000_00000000_00000000#40 = .ok .frmEnd ∧
    decode 0b01010000_10000000_00000001_00000000_00000010#40 = .ok (.iwCfg 0x80010002) := by decide

/-- The word of every constructor, from R74 and the operand fields. -/
theorem test_decode_every_constructor :
    decode 0x0000000000#40 = .ok .nop ∧ decode 0x0100000000#40 = .ok .reset ∧ decode 0x0200000000#40 = .ok (.regRd 0) ∧
    decode 0x1000000041#40 = .ok (.encPush 0x41) ∧ decode 0x1100000000#40 = .ok .encEnd ∧
    decode 0x1200000000#40 = .ok .encDelim ∧ decode 0x2000000005#40 = .ok (.decPush 0x05) ∧
    decode 0x3000000000#40 = .ok .crcClr ∧ decode 0x310000002A#40 = .ok (.crcUpd 0x2A) ∧
    decode 0x3200000000#40 = .ok .crcRd ∧ decode 0x4000000070#40 = .ok (.frmPush 0x70) ∧
    decode 0x4100000000#40 = .ok .frmEnd ∧ decode 0x50FFFFFFFF#40 = .ok (.iwCfg 4294967295) ∧
    decode 0x5100000000#40 = .ok .iwPoll ∧ decode 0x5200000000#40 = .ok .iwWait := by decide

/-- The encoder writes the same words (R74). -/
theorem test_encode :
    encode (.regRd 6) = 0x0200000006#40 ∧ encode (.encPush 0x41) = 0x1000000041#40 ∧ encode (.iwCfg 1000) = 0x50000003E8#40 ∧
    encode .iwWait = 0x5200000000#40 := by decide

/-- Vectors Y5, Y6, Y8, Y9, Y11 (legal), Y12 to Y15: rejected by the clause of R77. -/
theorem test_decode_illegal :
    decode 0x0200000007#40 = .illegal .badIndex ∧ decode 0x0200000100#40 = .illegal .highBitsNotZero ∧
    decode 0x1000000100#40 = .illegal .highBitsNotZero ∧ decode 0x1100000001#40 = .illegal .operandNotZero ∧
    decode 0x5000000000#40 = .ok (.iwCfg 0) ∧ decode 0x9900000000#40 = .illegal .badOpcode ∧
    decode 0x0300000000#40 = .illegal .badOpcode ∧ decode 0x5300000000#40 = .illegal .badOpcode ∧
    decode 0xFFFFFFFFFF#40 = .illegal .badOpcode := by decide

/-- No two rows of the opcode map share a word's `op` (R77), and the host's numbering is the word's. -/
theorem test_decodeTableWord : decodeTableWord 40 0x1000000041 = some (.encPush 0x41) ∧ decodeTableWord 40 0x0300000000 = none := by
  decide

/-! ## The pure functions -/

/-- Vectors E1, E2, E5, E7, E8. -/
theorem test_cobsEncode_short :
    cobsEncode false [] = [0x01] ∧ cobsEncode true [0x00] = [0x01, 0x01] ∧
    cobsEncode false [0x11, 0x22, 0x00, 0x33] = [0x03, 0x11, 0x22, 0x02, 0x33] ∧
    cobsEncode false [0x11, 0x00, 0x00, 0x00] = [0x02, 0x11, 0x01, 0x01, 0x01] ∧
    cobsEncode false [0x00, 0x11] = [0x01, 0x02, 0x11] := by decide

/-- The bytes from `a` on, as many as `n`: 01..FD is `bytesFrom 1 253`. -/
def bytesFrom (a n : Nat) : List Byte := (List.range n).map fun k => BitVec.ofNat 8 (a + k)

/-- Vector E12, both settings of the parameter. -/
theorem test_cobsEncode_full_block :
    cobsEncode false (bytesFrom 1 254) = 0xFF :: bytesFrom 1 254 ∧
    cobsEncode true (bytesFrom 1 254) = 0xFF :: bytesFrom 1 254 ++ [0x01] := by decide +kernel

/-- Vectors E10 and E15. -/
theorem test_cobsEncode_around_the_limit :
    cobsEncode true (bytesFrom 1 253) = 0xFE :: bytesFrom 1 253 ∧
    cobsEncode false (bytesFrom 1 254 ++ [0x00]) = 0xFF :: bytesFrom 1 254 ++ [0x01, 0x01] := by decide +kernel

/-- Vectors X1, X2, X3, X4, X7, X8. -/
theorem test_cobsDecode :
    cobsDecode [] = ([], .empty) ∧ cobsDecode [0x01] = ([], .ok) ∧ cobsDecode [0x01, 0x01] = ([0x00], .ok) ∧
    cobsDecode [0x03, 0x11, 0x22, 0x02, 0x33] = ([0x11, 0x22, 0x00, 0x33], .ok) ∧
    cobsDecode [0x05, 0x11, 0x22] = ([0x11, 0x22], .trunc) ∧ cobsDecode [0x05] = ([], .trunc) := by decide

/-- Vectors X10 and X12: a block after a full one. -/
theorem test_cobsDecode_after_a_full_block :
    cobsDecode (0xFF :: bytesFrom 1 254 ++ [0x01]) = (bytesFrom 1 254, .ok) ∧
    cobsDecode (0xFF :: bytesFrom 1 254 ++ [0x01, 0x01]) = (bytesFrom 1 254 ++ [0x00], .ok) := by decide +kernel

/-- The frame `03 11 22 02 33` as blocks (R90). -/
theorem test_blocks :
    blocksMessage [⟨0x03, [0x11, 0x22]⟩, ⟨0x02, [0x33]⟩] = [0x11, 0x22, 0x00, 0x33] ∧
    wellFormedBlock ⟨0x03, [0x11, 0x22]⟩ = true ∧ wellFormedBlock ⟨0x03, [0x11, 0x00]⟩ = false := by decide

/-- Vectors K4, K6, K12, K13, K17, K19. -/
theorem test_crc16 :
    crc16 [0x01] = 0x011B ∧ crc16 [0xFF] = 0xF609 ∧ crc16 [0x10, 0x2A] = 0x8925 ∧
    crc16 [0x05, 0x00, 0x00, 0x70, 0x41] = 0x1886 ∧ crc16 (bytesFrom 0x31 9) = 0x8D1C ∧
    crc16 [0x10, 0x2B, 0x89, 0x25] = 0x005E := by decide +kernel

/-- Vectors F1, F2, F6, F7. -/
theorem test_frame :
    frame false [0x10, 0x2A] = [0x05, 0x10, 0x2A, 0x89, 0x25, 0x00] ∧
    frame false [0x05, 0x00, 0x00, 0x70, 0x41] = [0x02, 0x05, 0x01, 0x05, 0x70, 0x41, 0x18, 0x86, 0x00] ∧
    frame true [0x01, 0x1B] = [0x03, 0x01, 0x1B, 0x02, 0x5E, 0x00] ∧
    frame true [0x01, 0x01] = [0x04, 0x01, 0x01, 0x1B, 0x01, 0x00] := by decide +kernel

/-- Vectors W3, W5, W7: the modular cases of `iw_next`. -/
theorem test_iwNext :
    iwNext 1000 4294967000 704 = (true, 704) ∧ iwNext 0x80000000 0x80000000 0 = (true, 0) ∧
    iwNext 1000 5000 4999 = (true, 4704) ∧ iwNext 1000 0 999 = (false, 0) := by decide +kernel

/-- The consumer of P2's history, and of the stream of part 2.2 (R104). -/
theorem test_rxMessages :
    rxMessages [.endFrame .empty, .byte 0x10, .byte 0x2A, .byte 0x89, .byte 0x25, .endFrame .ok] = [[0x10, 0x2A, 0x89, 0x25]] ∧
    rxMessages [.byte 0x11, .endFrame .trunc, .byte 0x33, .endFrame .ok] = [[0x33]] ∧
    acceptsRecord [0x10, 0x2A, 0x89, 0x25] = true ∧ acceptsRecord [0x10, 0x2B, 0x89, 0x25] = false := by decide +kernel

/-- Items of `rx` as 10-bit values (R56). -/
theorem test_rxItemWord : rxItemWord (.byte 0x2A) = 0x12A#10 ∧ rxItemWord (.endFrame .trunc) = 0x202#10 := by decide

/-- Assembler lines of part 3 (R79, R80). -/
theorem test_asm :
    asmLine "IW.WAIT @t=3600, 3900, 4001" = .ok ⟨[.iwWait], [3600, 3900, 4001]⟩ ∧
    asmLine "REG.RD IWDL ; the deadline" = .ok ⟨[.regRd 5], []⟩ ∧
    asmLine "FRM.MSG 0x10, 0x2A" = .ok ⟨[.frmPush 0x10, .frmPush 0x2A, .frmEnd], []⟩ ∧
    asmLine "ENC.PUSH 256" = .rejected .badOperand ∧ asmLine "NOP @t=1" = .rejected .badAnnotation := by decide +kernel

/-! ## One step of each command -/

/-- The state a command leaves. -/
def after (i : Instr) (s : State) : Option State :=
  match exec i s with
  | .next t => some t
  | .fault _ => none
  | .refused _ => none

/-- A state with every register away from its reset value. -/
def busy : State :=
  { State.reset with
    crc := 0x8925, encBuf := [0x10, 0x2A], encFull := false, decRem := 2, decZero := true, decMid := true,
    iwInterval := 1000, iwDeadline := 3000, iwNow := 3500, status := 0x4, tx := [0x00], rx := [.endFrame .empty] }

/-- The waiter after W1's second poll, with samples to come. -/
def waiting (samples : List Word) : State :=
  { State.reset with iwInterval := 1000, iwDeadline := 3000, iwNow := 3500, timeIn := samples }

theorem test_nop : after .nop busy = some busy := by decide

/-- R146's example. -/
theorem test_reset : (after .reset busy).map (fun t => (t.crc, t.encBuf, t.status, t.tx)) = some (0, [], 0, []) := by decide

/-- R147's example, and the packed views of part 2. -/
theorem test_regRd : (after (.regRd 5) busy).map (·.res) = some (some 0x00000BB8) ∧
    (after (.regRd 2) { State.reset with encFull := true }).map (·.res) = some (some 0x00000100) := by decide

/-- The register trace of X4 as REG.RD DECST reads it. -/
theorem test_regRd_decst : (after (.regRd 3) busy).map (·.res) = some (some 0x00000302) := by decide

/-- R92's example. -/
theorem test_encPush_zero : (after (.encPush 0) { State.reset with encBuf := [0x11, 0x22] }).map
    (fun t => (t.tx, t.encBuf, t.encFull)) = some ([0x03, 0x11, 0x22], [], false) := by decide

/-- The 254th byte of E12. -/
theorem test_encPush_fills : (after (.encPush 0xFE) { State.reset with encBuf := bytesFrom 1 253 }).map
    (fun t => (t.tx, t.encBuf, t.encFull)) = some (0xFF :: bytesFrom 1 254, [], true) := by decide +kernel

/-- R93's example. -/
theorem test_encEnd : (after .encEnd { State.reset with encBuf := [0x33] }).map (·.tx) = some [0x02, 0x33] := by decide

/-- E12's ENC.END, both settings. -/
theorem test_encEnd_after_a_full_block :
    (after .encEnd { State.reset with encFull := true }).map (·.tx) = some [] ∧
    (after .encEnd { State.reset with encFull := true, params := ⟨true⟩ }).map (·.tx) = some [0x01] := by decide

theorem test_encDelim : (after .encDelim busy).map (fun t => (t.tx, t.encBuf)) = some ([0x00, 0x00], [0x10, 0x2A]) := by decide

/-- X7: the delimiter inside a block. -/
theorem test_decPush_truncated : (after (.decPush 0) busy).map (fun t => (t.rx, t.status, t.decMid)) =
    some ([.endFrame .empty, .endFrame .trunc], 0xC, false) := by decide

/-- The fourth line of X4's trace. -/
theorem test_decPush_code : (after (.decPush 0x02) { busy with decRem := 0, rx := [] }).map
    (fun t => (t.rx, t.decRem, t.decZero)) = some ([.byte 0x00], 1, true) := by decide

theorem test_crcClr : (after .crcClr busy).map (·.crc) = some 0 := by decide

/-- R115's example. -/
theorem test_crcUpd : (after (.crcUpd 0x2A) { State.reset with crc := 0x11B0 }).map (·.crc) = some 0x8925 := by decide

/-- R116's example. -/
theorem test_crcRd : (after .crcRd busy).map (fun t => (t.res, t.crc)) = some (some 0x00008925, 0x8925) := by decide

/-- The second FRM.PUSH of P1's second record. -/
theorem test_frmPush : (after (.frmPush 0x00) { State.reset with crc := 0x0577, encBuf := [0x05] }).map
    (fun t => (t.tx, t.crc, t.encBuf)) = some ([0x02, 0x05], 0x7277, []) := by decide

/-- R122's example. -/
theorem test_frmEnd : (after .frmEnd busy).map (fun t => (t.tx, t.crc, t.encBuf)) =
    some ([0x00, 0x05, 0x10, 0x2A, 0x89, 0x25, 0x00], 0, []) := by decide

/-- W10 after a configuration. -/
theorem test_iwCfg : (after (.iwCfg 0) (waiting [])).map (fun t => (t.iwInterval, t.iwDeadline, t.status)) = some (1000, 3000, 2) ∧
    (after (.iwCfg 20000) (waiting [])).map (fun t => (t.iwInterval, t.iwDeadline, t.iwNow)) = some (20000, 0, 0) := by decide

/-- W1: equality fires. -/
theorem test_iwPoll_tick : (after .iwPoll (waiting [4000, 4500])).map (fun t => (t.res, t.iwDeadline, t.iwNow, t.timeIn)) =
    some (some 1, 4000, 4000, [4500]) := by decide

/-- W1: one microsecond less does not; and W9. -/
theorem test_iwPoll_no_tick : (after .iwPoll (waiting [3999])).map (fun t => (t.res, t.iwDeadline, t.iwNow)) =
    some (some 0, 3000, 3999) ∧
    (after .iwPoll { State.reset with timeIn := [777] }).map (fun t => (t.res, t.iwNow, t.status, t.timeIn)) =
    some (none, 0, 4, [777]) := by decide

/-- W11. -/
theorem test_iwWait : (after .iwWait (waiting [3600, 3900, 4001, 4002])).map
    (fun t => (t.res, t.iwDeadline, t.iwNow, t.timeIn)) = some (some 1, 4000, 4001, [4002]) := by decide

/-- No listed sample reaches the boundary: held. -/
theorem test_iwWait_held : (after .iwWait (waiting [3600, 3900])).map
    (fun t => (t.res, t.iwDeadline, t.iwNow, t.outcome)) = some (none, 3000, 3900, .held) := by decide

/-- What the step does with the port: it presents the next word, keeps a held one, and runs what `withFetchWord` stores. -/
def stepped (s : State) : Option State :=
  match step s with
  | .next t => some t
  | .fault _ => none
  | .refused _ => none

theorem test_step : (stepped ((waiting []).withFetchWord 40 0x1000000041)).map (fun t => (t.encBuf, t.cmds)) =
    some ([0x41], []) ∧
    (stepped ((waiting [3600]).withFetchWord 40 0x5200000000)).map (·.cmds) = some [0x5200000000] := by decide

/-- P4's first line. -/
theorem test_step_illegal : (stepped (State.reset.withFetchWord 40 0x9900000000)).map (fun t => (t.status, t.outcome, t.cmds)) =
    some (1, .error .ill, []) := by decide

/-! ## The hypotheses of the statements are met -/

theorem witness_DecodeOfEncodeIsTheCommand : (Instr.regRd 6).wellFormed = true ∧ (Instr.iwCfg 0xFFFFFFFF).wellFormed = true := by
  decide

theorem witness_EncodeOfDecodeIsTheWord : decode 0x0200000006#40 = .ok (.regRd 6) := by decide

/-- Each clause of R77 at a boundary value, and a legal word beside each. -/
theorem witness_IllegalWordsSetIllAndNothingElse :
    (State.reset.withFetchWord 40 0x5300000000).cmds = [0x5300000000#40] ∧
    illegalWord 0x5300000000#40 ∧ illegalWord 0x5200000001#40 ∧ illegalWord 0x1000000100#40 ∧ illegalWord 0x0200000007#40 ∧
    ¬ illegalWord 0x5200000000#40 ∧ ¬ illegalWord 0x10000000FF#40 ∧ ¬ illegalWord 0x0200000006#40 ∧
    ¬ illegalWord 0x5000000000#40 := by
  refine ⟨rfl, ?_, ?_, ?_, ?_, ?_, ?_, ?_, ?_⟩ <;> decide

theorem witness_StepRunsTheDecodedCommand : ∃ t, (busy.withFetchWord 40 0x4100000000).cmds = [0x4100000000#40] ∧
    decode 0x4100000000#40 = .ok .frmEnd ∧ exec .frmEnd (busy.withFetchWord 40 0x4100000000) = .next t := ⟨_, rfl, rfl, rfl⟩

theorem witness_StepWithoutACommandChangesNothing : busy.cmds = [] := rfl

/-- A held command, a failed one, and one that is done. -/
theorem witness_OnlyWaitCanBeHeld :
    (after .iwWait (waiting [3600])).map (·.outcome) = some .held ∧
    (after (.iwCfg 0) busy).map (·.outcome) = some (.error .iwcfg0) ∧ (after .nop busy).map (·.outcome) = some .done := by decide

theorem witness_OnlyPollAndWaitReadTheClock : ∃ t, exec (.frmPush 0x10) (waiting [1, 2]) = .next t ∧
    Instr.frmPush 0x10 ≠ .iwPoll ∧ Instr.frmPush 0x10 ≠ .iwWait := ⟨_, rfl, by decide, by decide⟩

theorem witness_EveryStepKeepsTheInvariants : ∃ t, (busy.withFetchWord 40 0x2000000011).Inv ∧
    step (busy.withFetchWord 40 0x2000000011) = .next t := ⟨_, by decide, rfl⟩

/-- The invariants hold of a state in the middle of a wait. -/
theorem witness_invariants_of_a_held_command : State.Inv { waiting [] with outcome := .held, cmds := [0x5200000000#40] } := by decide

theorem witness_StatusAndHistoriesOnlyGrow : ∃ t, step (busy.withFetchWord 40 0x2000000000) = .next t ∧
    (busy.withFetchWord 40 0x2000000000).cmds.head? ≠ some 0x0100000000#40 := ⟨_, rfl, by decide⟩

/-- A command for each clause: it is outside the writers the clause names. -/
theorem witness_RegistersChangeOnlyByTheirWriters :
    (∃ t, exec (.decPush 0x11) busy = .next t) ∧ usesCrc (.decPush 0x11) = false ∧ usesEnc (.decPush 0x11) = false ∧
    (∃ t, exec .crcRd busy = .next t) ∧ usesDec .crcRd = false ∧ usesIw .crcRd = false ∧
    (∃ t, exec .encDelim busy = .next t) ∧ Instr.encDelim ≠ .reset ∧
    (∃ t, exec .nop State.reset = .next t ∧ t.iwInterval = 0) := by
  exact ⟨⟨_, rfl⟩, rfl, rfl, ⟨_, rfl⟩, rfl, rfl, ⟨_, rfl⟩, by decide, ⟨_, rfl, rfl⟩⟩

theorem witness_StatusBitsAreSetOnlyByTheirConditions : ∃ t, (Instr.decPush 0).wellFormed = true ∧ exec (.decPush 0) busy = .next t ∧
    Instr.decPush 0 ≠ .reset ∧ busy.decMid = true ∧ busy.decRem ≠ 0 := ⟨_, rfl, rfl, by decide, by decide, by decide⟩

theorem witness_StatusGatesNoCommand : ∃ t, Instr.decPush 0 ≠ .reset ∧ Instr.decPush 0 ≠ .regRd 0 ∧ exec (.decPush 0) busy = .next t :=
  ⟨_, by decide, by decide, rfl⟩

theorem witness_LastSampleInfluencesNothing : ∃ t, Instr.iwPoll ≠ .regRd 6 ∧ exec .iwPoll (waiting [4000]) = .next t :=
  ⟨_, by decide, rfl⟩

theorem witness_HistoriesAreNeverRead : ∃ t, Instr.frmEnd ≠ .reset ∧ exec .frmEnd busy = .next t := ⟨_, by decide, rfl⟩

theorem witness_BufferContentIsHidden : ∃ t, usesEnc (.regRd 2) = false ∧ Instr.regRd 2 ≠ .reset ∧
    ([0x55, 0x66] : List Byte).length = busy.encBuf.length ∧ exec (.regRd 2) busy = .next t := ⟨_, rfl, by decide, rfl, rfl⟩

/-- The premise of the count's view, at its bound. -/
theorem witness_RegRdDrivesTheViewAndChangesNothing :
    (State.encBuf { State.reset with encBuf := bytesFrom 1 253 }).length ≤ 253 := by decide +kernel

theorem witness_RegRdOfAReservedIndexIsIllegal : 6 < (7 : Byte).toNat ∧ 6 < (255 : Byte).toNat := by decide

/-- Each branch of R92, at the bounds of the buffer. -/
theorem witness_EncPushBuffersOrEmitsABlock : (0x00 : Byte) = 0 ∧ (0xFF : Byte) ≠ 0 ∧
    (State.encBuf { State.reset with encBuf := bytesFrom 1 253 }).length = 253 ∧
    (State.encBuf { State.reset with encBuf := bytesFrom 1 252 }).length ≠ 253 := by decide +kernel

/-- Each branch of R93. -/
theorem witness_EncEndEmitsTheOwedBlock :
    (State.encFull { State.reset with encFull := true } = true ∧ State.reset.params.cobsTrail254 = false) ∧
    ¬ (State.encFull { State.reset with encFull := true } = true ∧ (⟨true⟩ : Params).cobsTrail254 = false) ∧
    ¬ (busy.encFull = true ∧ busy.params.cobsTrail254 = false) := by decide

/-- A program with other commands between the pushes. -/
def mixed : List Instr := [.encPush 0x11, .crcUpd 0x22, .decPush 0x01, .regRd 2, .encPush 0x00, .iwCfg 5, .encEnd, .nop]

theorem witness_EncoderStreamsCobsEncode : State.reset.encIdle ∧ .reset ∉ mixed ∧
    mixed.filter usesEnc = [0x11, 0x00].map .encPush ++ [.encEnd] ∧
    ∃ t, execList mixed State.reset = .next t ∧ t.outcome ≠ .held := by
  exact ⟨by decide, by decide, by decide, _, rfl, by decide⟩

/-- Each branch of R102; the last code byte and the last data byte among them. -/
theorem witness_DecPushFollowsTheFrame :
    State.reset.decMid = false ∧ (busy.decMid = true ∧ busy.decRem ≠ 0) ∧
    (State.decMid { busy with decRem := 0 } = true ∧ State.decRem { busy with decRem := 0 } = 0) ∧
    ((0xFF : Byte) ≠ 0 ∧ State.reset.decRem = 0) ∧ ((0x01 : Byte) ≠ 0 ∧ State.decRem { busy with decRem := 254 } ≠ 0) := by
  decide

/-- A frame with other commands between its bytes. -/
def mixedFrame : List Instr := [.decPush 0x02, .encPush 0x11, .decPush 0x11, .crcClr, .decPush 0x00, .iwCfg 0]

theorem witness_DecoderStreamsCobsDecode : State.reset.decIdle ∧ (0 : Byte) ∉ ([0x02, 0x11] : List Byte) ∧ .reset ∉ mixedFrame ∧
    mixedFrame.filter usesDec = [0x02, 0x11].map .decPush ++ [.decPush 0] ∧
    ∃ t, execList mixedFrame State.reset = .next t ∧ t.outcome ≠ .held := by
  exact ⟨by decide, by decide, by decide, by decide, _, rfl, by decide⟩

/-- Each clause at the bounds of the run: 254 and 508 bytes, from the start and from a zero; 0, 253 and 255 bytes. -/
theorem witness_TheParameterAddsAtMostOneByte :
    trailingRun (bytesFrom 1 254) = 254 ∧ trailingRun (0x00 :: List.replicate 508 0x11) = 508 ∧
    trailingRun (bytesFrom 1 254 ++ [0x00]) = 0 ∧ trailingRun (bytesFrom 1 253) % 254 = 253 ∧
    trailingRun (List.replicate 255 0x11) % 254 = 1 := by decide +kernel

theorem witness_WellFormedFramesDecode : ([⟨0xFF, bytesFrom 1 254⟩, ⟨0x01, []⟩] : List CobsBlock) ≠ [] ∧
    ∀ b ∈ ([⟨0xFF, bytesFrom 1 254⟩, ⟨0x01, []⟩] : List CobsBlock), wellFormedBlock b = true := by decide +kernel

/-- The passes of R110 for K4, by the trace of part 2.3. -/
theorem witness_CrcUpdIsEightPasses :
    let r : Nat → Half := fun k => crcShifts k (busy.crc ^^^ ((0x2A : Byte).setWidth 16 <<< 8))
    r 0 = busy.crc ^^^ ((0x2A : Byte).setWidth 16 <<< 8) ∧
    ∀ k < 8, r (k + 1) = if (r k).getLsbD 15 then (r k <<< 1) ^^^ 0x011B#16 else r k <<< 1 := by decide +kernel

def mixedCrc : List Instr := [.nop, .crcClr, .encPush 0x10, .crcUpd 0x10, .decPush 0x10, .crcUpd 0x2A, .encEnd]

theorem witness_CrcStreamsCrc16 : .reset ∉ mixedCrc ∧ mixedCrc.filter usesCrc = .crcClr :: [0x10, 0x2A].map .crcUpd ∧
    ∃ t, execList mixedCrc busy = .next t ∧ t.outcome ≠ .held := by
  exact ⟨by decide, by decide, _, rfl, by decide⟩

theorem witness_CrcIsLinear : ([0x10, 0x2A] : List Byte).length = ([0xFF, 0x01] : List Byte).length := rfl

def mixedRecord : List Instr := [.frmPush 0x10, .decPush 0x05, .frmPush 0x2A, .regRd 1, .frmEnd, .nop]

theorem witness_FrmCommandsSendTheRecord : State.reset.crc = 0 ∧ State.reset.encIdle ∧ .reset ∉ mixedRecord ∧
    mixedRecord.filter (fun i => usesEnc i || usesCrc i) = [0x10, 0x2A].map .frmPush ++ [.frmEnd] ∧
    ∃ t, execList mixedRecord State.reset = .next t ∧ t.outcome ≠ .held := by
  exact ⟨rfl, by decide, by decide, by decide, _, rfl, by decide⟩

theorem witness_AReceiverDecodesAndAcceptsTheRecord : State.reset.decIdle ∧ ([0x10, 0x2A] : List Byte) ≠ [] := by decide

/-- An idle decoder between frames, whose history is not that of reset. -/
theorem witness_TheStreamYieldsExactlyTheRecordsSent : State.decIdle { waiting [] with rx := [.endFrame .empty, .byte 0x11] } := by
  decide

/-- Both branches of R133. -/
theorem witness_IwCfgConfiguresOrRefusesZero : (0 : Word) = 0#32 ∧ (0xFFFFFFFF : Word) ≠ 0#32 := by decide

/-- Each branch of R134: one microsecond short of the boundary, at the boundary, and unconfigured. -/
theorem witness_PollReportsAndPassesTheBoundaries : State.reset.iwInterval = 0 ∧ (waiting []).iwInterval ≠ 0 ∧
    (waiting [3999]).nextSample = 3999 ∧ ((3999 : Word) - (waiting []).iwDeadline).toNat < (waiting []).iwInterval.toNat ∧
    (waiting [4000]).nextSample = 4000 ∧ (waiting []).iwInterval.toNat ≤ ((4000 : Word) - (waiting []).iwDeadline).toNat := by decide

theorem witness_SamplesAreTakenInOrder : (waiting [3600, 3900]).timeIn = [3600, 3900] ∧ (waiting []).timeIn = [] := ⟨rfl, rfl⟩

/-- Both branches of R131, at the greatest interval and at the least. -/
theorem witness_TickMovesTheDeadlineByWholeIntervals : (0xFFFFFFFF : Word) ≠ 0 ∧
    ((0xFFFFFFFE : Word) - 0).toNat < (0xFFFFFFFF : Word).toNat ∧ (1 : Word).toNat ≤ ((1 : Word) - 0).toNat := by decide

theorem witness_ClosedFormEqualsTheSourcesLoop : (1000 : Word) ≠ 0 ∧ ((3500 : Word) - 0).toNat / (1000 : Word).toNat ≤ 3 := by decide

theorem witness_ASecondPollAtTheSameTimeGivesNoTick : ∃ t, (waiting [4000, 4000]).iwInterval ≠ 0 ∧
    exec .iwPoll (waiting [4000, 4000]) = .next t ∧ t.nextSample = (waiting [4000, 4000]).nextSample :=
  ⟨_, by decide, rfl, by decide⟩

theorem witness_WaitOfAnUnconfiguredWaiterIsAnError : State.reset.iwInterval = 0 := rfl

/-- W11, and a boundary already passed (W12). -/
theorem witness_WaitIsThePollOfItsFirstTickingSample : (waiting []).iwInterval ≠ 0 ∧
    (waiting [3600, 3900, 4001]).timeIn = [3600, 3900] ++ 4001 :: [] ∧
    (∀ w ∈ ([3600, 3900] : List Word), (w - (waiting []).iwDeadline).toNat < (waiting []).iwInterval.toNat) ∧
    (waiting []).iwInterval.toNat ≤ ((4001 : Word) - (waiting []).iwDeadline).toNat ∧
    (waiting [9500]).timeIn = [] ++ 9500 :: [] ∧ (waiting []).iwInterval.toNat ≤ ((9500 : Word) - (waiting []).iwDeadline).toNat := by
  refine ⟨by decide, by decide, fun w hw => ?_, by decide, by decide, by decide⟩
  have h : w = 3600 ∨ w = 3900 := by simpa using hw
  rcases h with rfl | rfl <;> decide

/-- Samples short of the boundary; and, whatever the free value is, a deadline for which it is short and one for which it is
not. -/
theorem witness_WaitIsHeldUntilASampleReachesTheBoundary :
    (waiting [3600, 3999]).timeIn = 3600 :: [3999] ∧
    (∀ v ∈ (3600 :: [3999] : List Word), (v - (waiting []).iwDeadline).toNat < (waiting []).iwInterval.toNat) ∧
    (∃ s : State, s.iwInterval ≠ 0 ∧ s.timeIn = [] ∧
      (Config.timeSample s.draws - s.iwDeadline).toNat < s.iwInterval.toNat) ∧
    ∃ s : State, s.iwInterval ≠ 0 ∧ s.timeIn = [] ∧ s.iwInterval.toNat ≤ (Config.timeSample s.draws - s.iwDeadline).toNat := by
  refine ⟨rfl, fun v hv => ?_, ⟨{ waiting [] with iwInterval := 1, iwDeadline := Config.timeSample 0 }, by simp, rfl, ?_⟩,
    ⟨{ waiting [] with iwInterval := 1, iwDeadline := Config.timeSample 0 - 1 }, by simp, rfl, ?_⟩⟩
  · have h : v = 3600 ∨ v = 3999 := by simpa using hv
    rcases h with rfl | rfl <;> decide
  · simp [waiting, State.reset]
  · have h : ∀ x : Word, x - (x - 1#32) = 1#32 := by intro x; bv_omega
    simp [waiting, State.reset, h]

/-- The grid from 0 with period 1000 across the wrap of the clock (W3's first two lines, in true time). -/
theorem witness_PollInTrueTimeReportsPassedBoundaries :
    let s : State := { waiting [704] with iwDeadline := 4294967000 }
    s.iwInterval ≠ 0 ∧ 0 ≤ 4294967295 ∧ 4294967295 ≤ 4294968000 ∧
    s.iwDeadline = shown (boundary 0 s.iwInterval.toNat 4294967295) ∧ s.nextSample = shown 4294968000 ∧
    4294968000 - boundary 0 s.iwInterval.toNat 4294967295 < 2 ^ 32 := by decide +kernel

/-- W1's samples as true times, from the deadline 0. -/
theorem witness_DeadlinesStayOnTheGrid :
    let s : State := { waiting [0, 3500, 3500, 4000] with iwDeadline := 0 }
    s.iwInterval ≠ 0 ∧ s.iwDeadline = shown 0 ∧ s.timeIn = [0, 3500, 3500, 4000].map shown ++ [] ∧
    List.IsChain (fun a b => a ≤ b ∧ b - boundary 0 s.iwInterval.toNat a < 2 ^ 32) (0 :: [0, 3500, 3500, 4000]) := by decide +kernel

end Sys2Proof.Tests
end

section
/-! Proofs about the state after reset (10_state.md R44, 45_system.md R146). -/

namespace Sys2Proof.Machine

/-- The meaning of RESET: the block put back, no result, outcome *done* (R146). -/
theorem exec_reset (s : State) : exec .reset s = (resetBlock s).done := rfl

/-- Putting the block back leaves the reset state in everything but the fields that are not the block's, and the result and
outcome of the command before (R44, R146 corner case (c)). -/
theorem resetBlock_eq_reset (s : State) :
    resetBlock s = { State.reset with
      res := s.res, outcome := s.outcome, cmds := s.cmds, timeIn := s.timeIn, draws := s.draws, params := s.params } := rfl

/-- Settles O21: the power-on values row by row, then RESET as the block put back and finished without a result. -/
theorem resetValues : Obligations.ResetValues := by
  unfold Obligations.ResetValues
  refine ⟨rfl, rfl, ?encCnt, rfl, rfl, rfl, rfl, rfl, rfl, rfl, rfl, rfl, rfl, rfl, fun s => ?resetCommand⟩
  case encCnt => simp [State.encCnt, State.reset]
  case resetCommand => rw [exec_reset, resetBlock_eq_reset, State.done, State.finish, State.reset]

end Sys2Proof.Machine
end

section
/-! Proofs about the opcode map and the words it leaves out (30_encoding.md R74, R77). -/

namespace Sys2Proof.Machine

/-! The fields of a word -/

/-- A word is its `op` followed by its operand (R70). -/
theorem commandWord_fields (w : CmdWord) : commandWord (opField w) (argField w) = w :=
  (BitVec.extractLsb'_append_extractLsb'_eq_extractLsb' rfl).trans BitVec.extractLsb'_eq_self

/-- An operand is its upper 24 bits followed by its low byte (R72, R75). -/
theorem reservedBits_append_byteOperand (arg : Word) : reservedBits arg ++ byteOperand arg = arg :=
  (BitVec.extractLsb'_append_extractLsb'_eq_extractLsb' rfl).trans BitVec.extractLsb'_eq_self

theorem word_eq_iff (w v : CmdWord) : w = v ↔ opField w = opField v ∧ argField w = argField v := by
  refine ⟨by rintro rfl; exact ⟨rfl, rfl⟩, fun ⟨hop, harg⟩ => ?_⟩
  rw [← commandWord_fields w, ← commandWord_fields v, hop, harg]

theorem operand_eq_iff (a b : Word) : a = b ↔ reservedBits a = reservedBits b ∧ byteOperand a = byteOperand b := by
  refine ⟨by rintro rfl; exact ⟨rfl, rfl⟩, fun ⟨hhigh, hlow⟩ => ?_⟩
  rw [← reservedBits_append_byteOperand a, ← reservedBits_append_byteOperand b, hhigh, hlow]

theorem opField_and (w v : CmdWord) : opField (w &&& v) = opField w &&& opField v := BitVec.extractLsb'_and

theorem argField_and (w v : CmdWord) : argField (w &&& v) = argField w &&& argField v := BitVec.extractLsb'_and

theorem reservedBits_and (a b : Word) : reservedBits (a &&& b) = reservedBits a &&& reservedBits b := BitVec.extractLsb'_and

theorem byteOperand_and (a b : Word) : byteOperand (a &&& b) = byteOperand a &&& byteOperand b := BitVec.extractLsb'_and

/-- `arg[31:8]` read from the word (R70, R72). -/
theorem reservedBits_argField (w : CmdWord) : reservedBits (argField w) = w.extractLsb' 8 24 :=
  BitVec.extractLsb'_extractLsb'_of_le (by decide)

/-- `arg[7:0]` read from the word (R70, R76). -/
theorem byteOperand_argField (w : CmdWord) : byteOperand (argField w) = w.extractLsb' 0 8 :=
  BitVec.extractLsb'_extractLsb'_of_le (by decide)

/-! The masks of the opcode map -/

/-- A mask of formats B and R leaves the low byte of the word free (R72, R74, R75). -/
theorem and_byteMask_eq_iff (w matched : CmdWord) (harg : argField matched = 0#32) :
    w &&& 0xFFFFFFFF00#40 = matched ↔ opField w = opField matched ∧ reservedBits (argField w) = 0#24 := by
  have hop : opField (0xFFFFFFFF00#40) = BitVec.allOnes 8 := by decide
  have hhigh : reservedBits (argField 0xFFFFFFFF00#40) = BitVec.allOnes 24 := by decide
  have hlow : byteOperand (argField 0xFFFFFFFF00#40) = 0#8 := by decide
  have hzeroHigh : reservedBits 0#32 = 0#24 := by decide
  have hzeroLow : byteOperand 0#32 = 0#8 := by decide
  rw [word_eq_iff, operand_eq_iff, opField_and, argField_and, reservedBits_and, byteOperand_and, hop, hhigh, hlow, harg,
    hzeroHigh, hzeroLow, BitVec.and_allOnes, BitVec.and_allOnes, BitVec.and_zero]
  simp only [and_true]

/-- The mask of format W leaves the whole operand free (R73, R74). -/
theorem and_opMask_eq_iff (w matched : CmdWord) (harg : argField matched = 0#32) :
    w &&& 0xFF00000000#40 = matched ↔ opField w = opField matched := by
  have hop : opField (0xFF00000000#40) = BitVec.allOnes 8 := by decide
  have hmask : argField (0xFF00000000#40) = 0#32 := by decide
  rw [word_eq_iff, opField_and, argField_and, hop, hmask, harg, BitVec.and_allOnes, BitVec.and_zero]
  simp only [and_true]

/-! The words of R77 by the format of their `op` -/

/-- No `op` has two formats (R74). -/
theorem opsOfFormatZ_disjoint_opsOfFormatsBR : opsOfFormatZ.Disjoint opsOfFormatsBR := by
  simp [opsOfFormatZ, opsOfFormatsBR]

theorem illegalWord_iff_of_formatZ {w : CmdWord} (h : opField w ∈ opsOfFormatZ) : illegalWord w ↔ argField w ≠ 0#32 := by
  have hBR : opField w ∉ opsOfFormatsBR := opsOfFormatZ_disjoint_opsOfFormatsBR h
  have hReg : opField w ≠ 0x02#8 := fun h2 => hBR (by rw [h2]; decide)
  simp only [opField] at h hBR hReg
  simp [illegalWord, argField, h, hBR, hReg]

theorem illegalWord_iff_of_formatBR {w : CmdWord} (h : opField w ∈ opsOfFormatsBR) :
    illegalWord w ↔ reservedBits (argField w) ≠ 0#24 ∨ opField w = 0x02#8 ∧ 6 < (byteOperand (argField w)).toNat := by
  have hZ : opField w ∉ opsOfFormatZ := fun hZ => opsOfFormatZ_disjoint_opsOfFormatsBR hZ h
  rw [reservedBits_argField, byteOperand_argField]
  simp only [opField] at h hZ ⊢
  simp [illegalWord, h, hZ]

theorem not_illegalWord_of_formatW {w : CmdWord} (h : opField w = 0x50#8) : ¬ illegalWord w := by
  simp only [opField] at h
  simp [illegalWord, h, opsOfFormatZ, opsOfFormatsBR]

theorem illegalWord_of_unlisted {w : CmdWord} (hZ : opField w ∉ opsOfFormatZ) (hBR : opField w ∉ opsOfFormatsBR)
    (hW : opField w ≠ 0x50#8) : illegalWord w := .inl ⟨hZ, hBR, hW⟩

/-! The decoder by the format of `op` -/

theorem decodeFields_of_formatZ {op : Byte} (h : op ∈ opsOfFormatZ) :
    ∃ i : Instr, i.opcode = op ∧ ∀ arg, decodeFields op arg = formatZ i arg := by
  simp only [opsOfFormatZ, List.mem_cons, List.not_mem_nil, or_false] at h
  rcases h with rfl | rfl | rfl | rfl | rfl | rfl | rfl | rfl | rfl
  exacts [⟨.nop, rfl, fun _ => rfl⟩, ⟨.reset, rfl, fun _ => rfl⟩, ⟨.encEnd, rfl, fun _ => rfl⟩, ⟨.encDelim, rfl, fun _ => rfl⟩,
    ⟨.crcClr, rfl, fun _ => rfl⟩, ⟨.crcRd, rfl, fun _ => rfl⟩, ⟨.frmEnd, rfl, fun _ => rfl⟩, ⟨.iwPoll, rfl, fun _ => rfl⟩,
    ⟨.iwWait, rfl, fun _ => rfl⟩]

/-- Formats B and R read a byte, and format R, of REG.RD alone, checks its range (R72, R75). -/
theorem decodeFields_of_formatBR {op : Byte} (h : op ∈ opsOfFormatsBR) :
    ∃ f : Byte → Instr, (∀ b, (f b).opcode = op) ∧
      ∀ arg, decodeFields op arg = if op = 0x02#8 then formatR f arg else formatB f arg := by
  simp only [opsOfFormatsBR, List.mem_cons, List.not_mem_nil, or_false] at h
  rcases h with rfl | rfl | rfl | rfl | rfl
  exacts [⟨.encPush, fun _ => rfl, fun _ => rfl⟩, ⟨.decPush, fun _ => rfl, fun _ => rfl⟩, ⟨.crcUpd, fun _ => rfl, fun _ => rfl⟩,
    ⟨.frmPush, fun _ => rfl, fun _ => rfl⟩, ⟨.regRd, fun _ => rfl, fun _ => rfl⟩]

theorem decodeFields_of_unlisted {op : Byte} (arg : Word) (hZ : op ∉ opsOfFormatZ) (hBR : op ∉ opsOfFormatsBR)
    (hW : op ≠ 0x50#8) : decodeFields op arg = .illegal .badOpcode := by
  simp only [opsOfFormatZ, opsOfFormatsBR, List.mem_cons, List.not_mem_nil, or_false, not_or] at hZ hBR
  unfold decodeFields
  split
  case h_16 => rfl
  all_goals simp_all

/-- Decoding rejects the words of R77 and takes every other word as a command with its `op` (R77). -/
theorem decode_cases (w : CmdWord) :
    illegalWord w ∧ (∃ r, decode w = .illegal r) ∨ ¬ illegalWord w ∧ ∃ i, decode w = .ok i ∧ i.opcode = opField w := by
  unfold decode
  by_cases hZ : opField w ∈ opsOfFormatZ
  · obtain ⟨i, hop, hdecode⟩ := decodeFields_of_formatZ hZ
    rw [illegalWord_iff_of_formatZ hZ, hdecode, formatZ]
    by_cases harg : argField w = 0#32 <;> simp [harg, hop]
  by_cases hBR : opField w ∈ opsOfFormatsBR
  · obtain ⟨f, hop, hdecode⟩ := decodeFields_of_formatBR hBR
    rw [illegalWord_iff_of_formatBR hBR, hdecode, formatR, formatB]
    by_cases hhigh : reservedBits (argField w) = 0#24
    · by_cases hReg : opField w = 0x02#8
      · rcases Nat.lt_or_ge 6 (byteOperand (argField w)).toNat with hidx | hidx
        · simp [hhigh, hReg, hidx, hidx.not_ge]
        · simp [hhigh, hReg, hidx, hidx.not_gt, hop]
      · simp [hhigh, hReg, hop]
    · simp [hhigh]
  by_cases hW : opField w = 0x50#8
  · exact .inr ⟨not_illegalWord_of_formatW hW, .iwCfg (argField w), by rw [hW]; rfl, hW.symm⟩
  · exact .inl ⟨illegalWord_of_unlisted hZ hBR hW, _, decodeFields_of_unlisted _ hZ hBR hW⟩

theorem exists_decode_illegal {w : CmdWord} (h : illegalWord w) : ∃ r, decode w = .illegal r :=
  (decode_cases w).elim And.right fun hlegal => absurd h hlegal.1

theorem exists_decode_ok {w : CmdWord} (h : ¬ illegalWord w) : ∃ i, decode w = .ok i ∧ i.opcode = opField w :=
  (decode_cases w).elim (fun hillegal => absurd hillegal.1 h) And.right

/-! The rows of the opcode map -/

/-- The format of each row: its `op` and its mask, with an operand of zero to match, and the index check for the row REG.RD
alone (R71 to R75). -/
theorem opcodeTable_formats : ∀ r ∈ opcodeTable, argField r.matched = 0#32 ∧
    (opField r.matched ∈ opsOfFormatZ ∧ r.mask = BitVec.allOnes 40 ∧ r.mnemonic ≠ "REG.RD" ∨
     opField r.matched ∈ opsOfFormatsBR ∧ r.mask = 0xFFFFFFFF00#40 ∧ (r.mnemonic = "REG.RD" ↔ opField r.matched = 0x02#8) ∨
     opField r.matched = 0x50#8 ∧ r.mask = 0xFF00000000#40 ∧ r.mnemonic ≠ "REG.RD") := by
  decide

/-- The fifteen `op` values are distinct (R77). -/
theorem opcodeTable_op_injective : ∀ r ∈ opcodeTable, ∀ r' ∈ opcodeTable, opField r.matched = opField r'.matched → r = r' := by
  decide

/-- Every command has a row of its mnemonic and its `op` (R74). -/
theorem exists_row (i : Instr) : ∃ r ∈ opcodeTable, opField r.matched = i.opcode ∧ r.mnemonic = i.mnemonic := by
  cases i <;> simp [opcodeTable, Instr.opcode, Instr.mnemonic, opField]

/-- The words that select a row are the legal words with its `op` (R74, R77). -/
theorem selects_iff {r : OpcodeRow} (hr : r ∈ opcodeTable) (w : CmdWord) :
    r.selects w = true ↔ opField w = opField r.matched ∧ ¬ illegalWord w := by
  obtain ⟨harg, ⟨hop, hmask, hname⟩ | ⟨hop, hmask, hname⟩ | ⟨hop, hmask, hname⟩⟩ := opcodeTable_formats r hr
  all_goals
    simp only [OpcodeRow.selects, Bool.and_eq_true, beq_iff_eq, Bool.or_eq_true, bne_iff_ne, decide_eq_true_eq, hmask,
      ← byteOperand_argField]
  · rw [BitVec.and_allOnes, word_eq_iff, harg, and_iff_left (Or.inl hname)]
    refine and_congr_right fun h => ?_
    rw [illegalWord_iff_of_formatZ (h ▸ hop), not_not]
  · rw [and_byteMask_eq_iff _ _ harg, and_assoc]
    refine and_congr_right fun h => ?_
    rw [illegalWord_iff_of_formatBR (h ▸ hop), ne_eq, hname, h, not_or, not_not, not_and, not_lt, imp_iff_not_or]
  · rw [and_opMask_eq_iff _ _ harg]
    simp only [hname, ne_eq, not_false_eq_true, true_or, and_true]
    exact ⟨fun h => ⟨h, not_illegalWord_of_formatW (h.trans hop)⟩, And.left⟩

/-! The step at an illegal word -/

/-- A rejected word takes the error outcome ILL, and the host goes on (R77, R156, R157). -/
theorem step_of_decode_illegal {s : State} {w : CmdWord} {rest : List CmdWord} {r : Illegal} (hcmds : s.cmds = w :: rest)
    (hdecode : decode w = .illegal r) :
    step s = .next { s with status := s.status ||| 1#4, res := none, outcome := .error .ill, cmds := rest } := by
  simp [step, hcmds, hdecode, State.raise, retire, State.advance, State.finish, State.setErr, setStatus, errCode]

/-- Settles O4: a row is selected exactly by the legal words with its `op`, which are the words that decode. -/
theorem illegalWordsSetIllAndNothingElse : Obligations.IllegalWordsSetIllAndNothingElse := by
  unfold Obligations.IllegalWordsSetIllAndNothingElse
  refine ⟨fun s w rest hcmds h => ?step, fun w h r hr => ?noRow, fun w h => ?oneRow⟩
  case step =>
    obtain ⟨r, hdecode⟩ := exists_decode_illegal h
    exact step_of_decode_illegal hcmds hdecode
  case noRow =>
    rw [← Bool.not_eq_true, selects_iff hr]
    exact fun hselects => hselects.2 h
  case oneRow =>
    obtain ⟨i, hdecode, hop⟩ := exists_decode_ok h
    obtain ⟨r, hr, hrop, hname⟩ := exists_row i
    refine ⟨r, hr, (selects_iff hr w).2 ⟨by rw [hrop, hop], h⟩, fun r' hr' hselects => ?_, i, hdecode, hname.symm⟩
    obtain ⟨hop', -⟩ := (selects_iff hr' w).1 hselects
    exact opcodeTable_op_injective r' hr' r hr (by rw [← hop', hrop, hop])

end Sys2Proof.Machine
end

section
/-! Proofs about the encoder's commands (40_cobs_encoder.md R92 to R94). -/

namespace Sys2Proof.Machine

/-! The meanings of the commands -/

theorem exec_encPush (b : Byte) (s : State) : exec (.encPush b) s = (encPush b s).done := rfl

theorem exec_encEnd (s : State) : exec .encEnd s = (encEnd s).done := rfl

theorem exec_encDelim (s : State) : exec .encDelim s = (encDelim s).done := rfl

/-! ENC.PUSH by the byte and the room left in the block -/

theorem encPush_zero (s : State) :
    encPush 0x00#8 s = { s.txEmit (closedBlock s.encBuf) with encBuf := [], encFull := false } := if_pos rfl

/-- The byte that makes `BLK` emits the full block (R92). -/
theorem encPush_of_fills {b : Byte} {s : State} (hb : b ≠ 0x00#8) (hlen : s.encBuf.length + 1 = blockLimit) :
    encPush b s = { s.txEmit (0xFF#8 :: (s.encBuf ++ [b])) with encBuf := [], encFull := true } := by
  rw [encPush, if_neg hb, if_pos hlen]

theorem encPush_of_room {b : Byte} {s : State} (hb : b ≠ 0x00#8) (hlen : s.encBuf.length + 1 ≠ blockLimit) :
    encPush b s = { s with encBuf := s.encBuf ++ [b], encFull := false } := by
  rw [encPush, if_neg hb, if_neg hlen]

/-! ENC.END by what is owed -/

/-- After a full block nothing is owed when the parameter is 0 (R93). -/
theorem encEnd_of_nothing_owed {s : State} (h : s.encFull = true ∧ s.params.cobsTrail254 = false) :
    encEnd s = { s with encBuf := [], encFull := false } := if_pos (by simp [h])

theorem encEnd_of_block_owed {s : State} (h : ¬ (s.encFull = true ∧ s.params.cobsTrail254 = false)) :
    encEnd s = { s.txEmit (closedBlock s.encBuf) with encBuf := [], encFull := false } := if_neg (by simpa using h)

/-- Settles O24: ENC.PUSH does what its state change does in each of the three branches, and completes without a result. -/
theorem encPushBuffersOrEmitsABlock : Obligations.EncPushBuffersOrEmitsABlock := by
  unfold Obligations.EncPushBuffersOrEmitsABlock
  intro s b
  rw [exec_encPush]
  refine ⟨fun hb => ?zero, fun hb hlen => ?fills, fun hb hlen => ?room⟩
  case zero => subst hb; rw [encPush_zero]; rfl
  case fills => rw [encPush_of_fills hb (congrArg (· + 1) hlen)]; rfl
  case room => rw [encPush_of_room hb (fun h => hlen (Nat.succ.inj h))]; rfl

/-- Settles O25: ENC.END does what its state change does in each of the two branches, and completes without a result. -/
theorem encEndEmitsTheOwedBlock : Obligations.EncEndEmitsTheOwedBlock := by
  unfold Obligations.EncEndEmitsTheOwedBlock
  intro s
  rw [exec_encEnd]
  refine ⟨fun h => ?nothingOwed, fun h => ?blockOwed⟩
  case nothingOwed => rw [encEnd_of_nothing_owed h]; rfl
  case blockOwed => rw [encEnd_of_block_owed h]; rfl

/-- Settles O26: the delimiter is one zero, and ENC.DELIM emits it and completes without a result. -/
theorem encDelimEmitsAZero : Obligations.EncDelimEmitsAZero := by
  unfold Obligations.EncDelimEmitsAZero
  intro s
  rw [exec_encDelim, encDelim, State.txEmit, delimiter, State.done, State.finish]

end Sys2Proof.Machine
end

section
/-! Proofs about the decoder's command (41_cobs_decoder.md R102). -/

namespace Sys2Proof.Machine

/-! The meaning of the command -/

theorem exec_decPush (e : Byte) (s : State) : exec (.decPush e) s = (decPush e s).done := rfl

/-! DEC.PUSH at a delimiter, by where in a frame the decoder stands -/

theorem decPush_delimiter_of_between_frames {s : State} (hmid : s.decMid = false) :
    decPush 0x00#8 s = decIdled (s.rxEnd .empty) := if_pos hmid

/-- A delimiter inside a block sets DECTRUNC (R102). -/
theorem decPush_delimiter_of_block_open {s : State} (hmid : s.decMid = true) (hrem : s.decRem ≠ 0#8) :
    decPush 0x00#8 s = decIdled ((s.rxEnd .trunc).setErr .dectrunc) := by
  rw [decPush, if_pos rfl, decDelimiter, if_neg (by simp [hmid]), if_pos hrem]

theorem decPush_delimiter_of_block_complete {s : State} (hmid : s.decMid = true) (hrem : s.decRem = 0#8) :
    decPush 0x00#8 s = decIdled (s.rxEnd .ok) := by
  rw [decPush, if_pos rfl, decDelimiter, if_neg (by simp [hmid]), if_neg (by simp [hrem])]

/-! DEC.PUSH at a byte of a frame -/

/-- A code byte gives the zero owed, if any, and begins its block (R102). -/
theorem decPush_code {e : Byte} {s : State} (he : e ≠ 0x00#8) (hrem : s.decRem = 0#8) :
    decPush e s = decBegin e { s with rx := s.rx ++ if s.decZero then [.byte 0x00#8] else [] } := by
  rw [decPush, if_neg he, if_pos hrem, decCode]
  split
  case isTrue => rfl
  case isFalse => rw [List.append_nil]

theorem decPush_data {e : Byte} {s : State} (he : e ≠ 0x00#8) (hrem : s.decRem ≠ 0#8) :
    decPush e s = { s.rxByte e with decRem := s.decRem - 1#8 } := by
  rw [decPush, if_neg he, if_neg hrem, decData]

/-- Settles O32: DEC.PUSH does what its state change does in each of the five branches, and completes without a result. -/
theorem decPushFollowsTheFrame : Obligations.DecPushFollowsTheFrame := by
  unfold Obligations.DecPushFollowsTheFrame
  intro s e
  rw [exec_decPush]
  refine ⟨fun he hmid => ?empty, fun he hmid hrem => ?truncated, fun he hmid hrem => ?complete, fun he hrem => ?code,
    fun he hrem => ?data⟩
  case empty => subst he; rw [decPush_delimiter_of_between_frames hmid]; rfl
  case truncated => subst he; rw [decPush_delimiter_of_block_open hmid hrem]; rfl
  case complete => subst he; rw [decPush_delimiter_of_block_complete hmid hrem]; rfl
  case code =>
    have howed : (e != 0xFF#8) = decide (e ≠ 0xFF#8) := decide_not.symm
    rw [decPush_code he hrem, ← howed]
    rfl
  case data => rw [decPush_data he hrem]; rfl

end Sys2Proof.Machine
end

section
/-! Proofs about the CRC's three commands (42_crc16.md R114 to R116). -/

namespace Sys2Proof.Machine

/-! The meaning of each command -/

theorem exec_crcClr (s : State) : exec .crcClr s = (crcClr s).done := rfl

theorem exec_crcUpd (b : Byte) (s : State) : exec (.crcUpd b) s = (crcUpd b s).done := rfl

theorem exec_crcRd (s : State) : exec .crcRd s = s.result (s.crc.setWidth 32) := rfl

/-- Settles O37: CRC.CLR is its state change and a completion without a result; CRC.RD completes with the register as its
result. -/
theorem crcClrClearsAndCrcRdReads : Obligations.CrcClrClearsAndCrcRdReads := by
  unfold Obligations.CrcClrClearsAndCrcRdReads
  refine fun s => ⟨?clr, ?rd⟩
  case clr => rw [exec_crcClr, crcClr, crcInit, State.done, State.finish]
  case rd => rw [exec_crcRd, State.result, State.finish]

/-! The passes of the shift register -/

/-- A sequence of values each of which is one pass after the one before it ends where the loop of R110 does. -/
theorem eq_crcShifts_of_passes {n : Nat} {r : Nat → Half} (h : ∀ k < n, r (k + 1) = crcShift (r k)) :
    r n = crcShifts n (r 0) := by
  induction n generalizing r with
  | zero => rfl
  | succ n ih =>
    have hrest : r (n + 1) = crcShifts n (r 1) := ih (r := fun k => r (k + 1)) fun k hk => h (k + 1) (Nat.succ_lt_succ hk)
    rw [hrest, h 0 n.succ_pos, crcShifts]

/-- Settles O38: the sequence begins where `crc16Update` does, so its ninth value is the register's new one. -/
theorem crcUpdIsEightPasses : Obligations.CrcUpdIsEightPasses := by
  unfold Obligations.CrcUpdIsEightPasses
  intro s b r hstart hpass
  have hlast : r 8 = crc16Update s.crc b := by rw [eq_crcShifts_of_passes hpass, hstart, crc16Update]
  rw [exec_crcUpd, crcUpd, ← hlast, State.done, State.finish]

end Sys2Proof.Machine
end

section
/-! Proofs about the framing commands as lists of the commands they stand for (43_framing.md R121, R122). -/

namespace Sys2Proof.Machine

/-! The meanings of the commands -/

theorem exec_frmPush (b : Byte) (s : State) : exec (.frmPush b) s = (frmPush b s).done := rfl

theorem exec_frmEnd (s : State) : exec .frmEnd s = (frmEnd s).done := rfl

/-! Commands in order -/

/-- A command that completes is followed by the rest, on the state it left (R60). -/
theorem execList_cons_of_done {i : Instr} {s u : State} (rest : List Instr) (h : exec i s = u.done) :
    execList (i :: rest) s = execList rest (u.finish .done none) := by
  rw [execList, h]
  exact if_neg (by simp)

/-! What the state changes neither read nor write -/

/-- The latest completion stands. -/
theorem State.finish_finish (o p : CmdOutcome) (q r : Option Word) (s : State) : (s.finish o q).finish p r = s.finish p r := rfl

/-- Neither `res` nor `outcome` is read by the CRC's or the encoder's commands (R39). -/
theorem crcUpd_finish (b : Byte) (o : CmdOutcome) (r : Option Word) (s : State) :
    crcUpd b (s.finish o r) = (crcUpd b s).finish o r := rfl

theorem crcClr_finish (o : CmdOutcome) (r : Option Word) (s : State) : crcClr (s.finish o r) = (crcClr s).finish o r := rfl

theorem encDelim_finish (o : CmdOutcome) (r : Option Word) (s : State) : encDelim (s.finish o r) = (encDelim s).finish o r := rfl

theorem encEnd_finish (o : CmdOutcome) (r : Option Word) (s : State) : encEnd (s.finish o r) = (encEnd s).finish o r := by
  rw [encEnd, encEnd, apply_ite (State.finish o r)]
  rfl

theorem encPush_finish (b : Byte) (o : CmdOutcome) (r : Option Word) (s : State) :
    encPush b (s.finish o r) = (encPush b s).finish o r := by
  rw [encPush, encPush, apply_ite (State.finish o r), apply_ite (State.finish o r)]
  rfl

/-- The two parts of FRM.PUSH touch disjoint state (R121). -/
theorem crcUpd_encPush (b c : Byte) (s : State) : crcUpd b (encPush c s) = encPush c (crcUpd b s) := by
  rw [encPush, encPush, apply_ite (crcUpd b), apply_ite (crcUpd b)]
  rfl

/-! The frames -/

/-- Equality of states, field by field. -/
theorem State.ext_iff {s t : State} : s = t ↔
    s.crc = t.crc ∧ s.encBuf = t.encBuf ∧ s.encFull = t.encFull ∧ s.decRem = t.decRem ∧ s.decZero = t.decZero ∧
    s.decMid = t.decMid ∧ s.iwInterval = t.iwInterval ∧ s.iwDeadline = t.iwDeadline ∧ s.iwNow = t.iwNow ∧
    s.status = t.status ∧ s.tx = t.tx ∧ s.rx = t.rx ∧ s.res = t.res ∧ s.outcome = t.outcome ∧ s.cmds = t.cmds ∧
    s.timeIn = t.timeIn ∧ s.draws = t.draws ∧ s.params = t.params := by
  cases s
  cases t
  rw [State.mk.injEq]

theorem frmPush_frame (b : Byte) (s : State) : frmPush b s =
    { s with crc := crc16Update s.crc b, encBuf := (frmPush b s).encBuf, encFull := (frmPush b s).encFull,
             tx := (frmPush b s).tx } := by
  simp [State.ext_iff]

theorem frmEnd_frame (s : State) :
    frmEnd s = { s with crc := 0x0000#16, encBuf := [], encFull := false, tx := (frmEnd s).tx } := by
  simp [State.ext_iff]

/-- Settles O45: the parts do not read what a completion writes, and commute with each other. -/
theorem frmPushIsCrcUpdAndEncPush : Obligations.FrmPushIsCrcUpdAndEncPush := by
  unfold Obligations.FrmPushIsCrcUpdAndEncPush
  refine fun s b => ⟨(frmPush b s).finish .done none, exec_frmPush b s, ?crcFirst, ?encFirst, frmPush_crc b s, ?frame⟩
  case crcFirst =>
    rw [execList_cons_of_done _ (exec_crcUpd b s), execList_cons_of_done _ (exec_encPush b _), execList, encPush_finish,
      State.finish_finish, frmPush]
  case encFirst =>
    rw [execList_cons_of_done _ (exec_encPush b s), execList_cons_of_done _ (exec_crcUpd b _), execList, crcUpd_finish,
      State.finish_finish, crcUpd_encPush, frmPush]
  case frame =>
    rw [State.finish_crc, frmPush_crc]
    exact congrArg (State.finish .done none) (frmPush_frame b s)

/-- Settles O46: the five commands make FRM.END's state change in order, and only the last one's completion stands. -/
theorem frmEndClosesTheRecord : Obligations.FrmEndClosesTheRecord := by
  unfold Obligations.FrmEndClosesTheRecord
  refine fun s => ⟨(frmEnd s).finish .done none, exec_frmEnd s, ?parts, congrArg (State.finish .done none) (frmEnd_frame s)⟩
  rw [execList_cons_of_done _ (exec_encPush _ s), execList_cons_of_done _ (exec_encPush _ _),
    execList_cons_of_done _ (exec_encEnd _), execList_cons_of_done _ (exec_encDelim _),
    execList_cons_of_done _ (exec_crcClr _), execList]
  simp only [encPush_finish, encEnd_finish, encDelim_finish, crcClr_finish, State.finish_finish]
  rfl

end Sys2Proof.Machine
end

section
/-! Proofs about the interval waiter's tick function, IW.CFG and IW.POLL (44_interval_waiter.md R131, R133, R134). -/

namespace Sys2Proof.Machine

/-! The tick function -/

/-- The sum of R131 wraps as words do. -/
theorem deadline_sum_eq_add_mul (deadline interval : Word) (k : Nat) :
    BitVec.ofNat 32 (deadline.toNat + k * interval.toNat) = deadline + BitVec.ofNat 32 k * interval := by
  rw [BitVec.ofNat_add, BitVec.ofNat_mul, BitVec.ofNat_toNat, BitVec.ofNat_toNat, BitVec.setWidth_eq, BitVec.setWidth_eq]

/-- A deadline moved by no more than the elapsed time lies so much nearer to the sample (R131). -/
theorem elapsed_deadline_sum {deadline now : Word} {m : Nat} (h : m ≤ elapsed deadline now) :
    elapsed (BitVec.ofNat 32 (deadline.toNat + m)) now = elapsed deadline now - m := by
  unfold elapsed at *
  bv_omega

/-- After the call less than an interval is left to the sample (R131). -/
theorem elapsed_iwNext (interval deadline now : Word) :
    elapsed (iwNext interval deadline now).2 now = elapsed deadline now % interval.toNat := by
  rcases Nat.lt_or_ge (elapsed deadline now) interval.toNat with h | h
  · rw [iwNext_of_lt _ _ _ h, Nat.mod_eq_of_lt h]
  · rw [iwNext_of_le _ _ _ h, elapsed_deadline_sum (Nat.div_mul_le_self _ _), Nat.mod_eq_sub_div_mul]

/-- Settles O53: the two branches of the call, and the remainder it leaves. -/
theorem tickMovesTheDeadlineByWholeIntervals : Obligations.TickMovesTheDeadlineByWholeIntervals := by
  unfold Obligations.TickMovesTheDeadlineByWholeIntervals
  intro interval deadline now hinterval
  have hpos : 0 < interval.toNat := Nat.pos_of_ne_zero fun h => hinterval (BitVec.eq_of_toNat_eq h)
  have hleft := elapsed_iwNext interval deadline now
  refine ⟨fun h => ⟨?tick, ?moves⟩, fun h => ?noTick, hleft, hleft.trans_lt (Nat.mod_lt _ hpos)⟩
  case tick => rw [iwNext_of_le _ _ _ h, deadline_sum_eq_add_mul, elapsed]
  case moves => exact Nat.div_pos h hpos
  case noTick => exact iwNext_of_lt _ _ _ h

/-! IW.CFG by its operand -/

theorem exec_iwCfg_of_zero {w : Word} (s : State) (hw : w = 0#32) : exec (.iwCfg w) s = s.raise .iwcfg0 := if_pos hw

theorem exec_iwCfg_of_ne_zero {w : Word} (s : State) (hw : w ≠ 0#32) :
    exec (.iwCfg w) s = State.done { s with iwInterval := w, iwDeadline := 0#32, iwNow := 0#32 } := if_neg hw

/-- Settles O50: the operand 0 raises IWCFG0, and any other is a completion of the three writes. -/
theorem iwCfgConfiguresOrRefusesZero : Obligations.IwCfgConfiguresOrRefusesZero := by
  unfold Obligations.IwCfgConfiguresOrRefusesZero
  refine fun s w => ⟨fun hw => ?refuses, fun hw => ?configures⟩
  case refuses => rw [exec_iwCfg_of_zero s hw]; rfl
  case configures => rw [exec_iwCfg_of_ne_zero s hw]; rfl

/-! IW.POLL by whether the waiter is configured -/

theorem exec_iwPoll_of_unconfigured {s : State} (h : s.iwInterval = 0#32) : exec .iwPoll s = s.raise .iwuncfg := if_pos h

theorem exec_iwPoll_of_configured {s : State} (h : s.iwInterval ≠ 0#32) :
    exec .iwPoll s = (pollState s).result (if pollTick s then 1#32 else 0#32) := if_neg h

/-- A configured poll reports and stores what the tick function answers at its sample (R134). -/
theorem exec_iwPoll_of_iwNext {s : State} {now deadline : Word} {tick : Bool} (h : s.iwInterval ≠ 0#32)
    (hnow : s.nextSample = now) (hnext : iwNext s.iwInterval s.iwDeadline now = (tick, deadline)) :
    exec .iwPoll s = .next
      { s.takeSample with
        iwNow := now, iwDeadline := deadline, res := some (if tick then 1#32 else 0#32), outcome := .done } := by
  subst hnow
  rw [exec_iwPoll_of_configured h, pollTick, pollState, hnext, State.result, State.finish]

/-- Settles O51: an unconfigured waiter raises IWUNCFG; a configured one follows the tick function. -/
theorem pollReportsAndPassesTheBoundaries : Obligations.PollReportsAndPassesTheBoundaries := by
  unfold Obligations.PollReportsAndPassesTheBoundaries
  refine fun s => ⟨fun h => ?unconfigured, fun now h hnow hlt => ?noBoundary, fun now h hnow hle => ?boundary⟩
  case unconfigured => rw [exec_iwPoll_of_unconfigured h]; rfl
  case noBoundary => exact exec_iwPoll_of_iwNext h hnow (iwNext_of_lt _ _ _ hlt)
  case boundary => exact exec_iwPoll_of_iwNext h hnow (iwNext_of_le _ _ _ hle)

end Sys2Proof.Machine
end

section
/-! Proofs about the system commands (45_system.md R145 to R147). -/

namespace Sys2Proof.Machine

/-! The meaning of each command; RESET has its own above -/

theorem exec_nop (s : State) : exec .nop s = s.done := rfl

/-- REG.RD of an index that has a view drives the view (R147). -/
theorem exec_regRd_of_view {idx : Byte} {s : State} {v : Word} (h : s.regView idx = some v) :
    exec (.regRd idx) s = s.result v := by
  rw [exec, execRegRd, h]

/-! The two packed views as numbers (R40) -/

/-- A concatenation is the sum of its two parts, the high one weighted by the width of the low one. -/
theorem toNat_append_eq_add {m n : Nat} (hi : BitVec m) (lo : BitVec n) :
    (hi ++ lo).toNat = hi.toNat * 2 ^ n + lo.toNat := by
  rw [BitVec.toNat_append, ← Nat.shiftLeft_add_eq_or_of_lt lo.isLt, Nat.shiftLeft_eq]

/-- The count is its own low byte up to the bound the invariants give (R24). -/
theorem encCnt_toNat {s : State} (h : s.encBuf.length ≤ 253) : s.encCnt.toNat = s.encBuf.length := by
  rw [State.encCnt, BitVec.toNat_ofNat, Nat.mod_eq_of_lt (by omega)]

theorem encst_eq_sum {s : State} (h : s.encBuf.length ≤ 253) :
    s.encst = BitVec.ofNat 32 (s.encBuf.length + s.encFull.toNat * 256) := by
  have hpacked : s.encst.toNat = s.encBuf.length + s.encFull.toNat * 256 := by
    simp only [State.encst, toNat_append_eq_add, encCnt_toNat h, BitVec.toNat_ofBool, BitVec.toNat_ofNat]
    omega
  rw [← hpacked, BitVec.ofNat_toNat, BitVec.setWidth_eq]

theorem decst_eq_sum (s : State) :
    s.decst = BitVec.ofNat 32 (s.decRem.toNat + s.decZero.toNat * 256 + s.decMid.toNat * 512) := by
  have hpacked : s.decst.toNat = s.decRem.toNat + s.decZero.toNat * 256 + s.decMid.toNat * 512 := by
    simp only [State.decst, toNat_append_eq_add, BitVec.toNat_ofBool, BitVec.toNat_ofNat]
    omega
  rw [← hpacked, BitVec.ofNat_toNat, BitVec.setWidth_eq]

/-- Settles O19: NOP is the outcome *done* and nothing besides. -/
theorem nopHasNoEffect : Obligations.NopHasNoEffect := by
  unfold Obligations.NopHasNoEffect
  intro s
  rw [exec_nop, State.done, State.finish]

/-- Settles O20: the block put back, then finished without a result. -/
theorem resetPutsEverythingBack : Obligations.ResetPutsEverythingBack := by
  unfold Obligations.ResetPutsEverythingBack
  intro s
  rw [exec_reset, resetBlock, State.done, State.finish]

/-- Settles O22: each populated index has its view; the two packed ones are their sums. -/
theorem regRdDrivesTheViewAndChangesNothing : Obligations.RegRdDrivesTheViewAndChangesNothing := by
  unfold Obligations.RegRdDrivesTheViewAndChangesNothing
  refine fun s => ⟨?status, ?crc, fun hlen => ?encst, ?decst, ?interval, ?deadline, ?now⟩
  case encst => rw [← encst_eq_sum hlen]; exact exec_regRd_of_view rfl
  case decst => rw [← decst_eq_sum s]; exact exec_regRd_of_view rfl
  all_goals exact exec_regRd_of_view rfl

end Sys2Proof.Machine
end

section
/-! Proofs that the decoder and the encoder of command words are inverse to each other (30_encoding.md R70 to R77). -/

namespace Sys2Proof.Machine

/-! The fields of an encoded word -/

@[simp] theorem opField_commandWord (op : Byte) (arg : Word) : opField (commandWord op arg) = op :=
  BitVec.extractLsb'_append_eq_left

@[simp] theorem argField_commandWord (op : Byte) (arg : Word) : argField (commandWord op arg) = arg :=
  BitVec.extractLsb'_append_eq_right

theorem decode_encode_eq (i : Instr) : decode (encode i) = decodeFields i.opcode i.operand := by
  rw [decode, encode, opField_commandWord, argField_commandWord]

/-- A byte stands in the operand field with zeros above it (R72, R75). -/
theorem setWidth_eq_zero_append (b : Byte) : b.setWidth 32 = 0#24 ++ b := by
  rw [BitVec.setWidth_eq_append (by decide), BitVec.cast_eq]

@[simp] theorem reservedBits_setWidth (b : Byte) : reservedBits (b.setWidth 32) = 0#24 := by
  rw [setWidth_eq_zero_append]; exact BitVec.extractLsb'_append_eq_left

@[simp] theorem byteOperand_setWidth (b : Byte) : byteOperand (b.setWidth 32) = b := by
  rw [setWidth_eq_zero_append]; exact BitVec.extractLsb'_append_eq_right

/-- An operand with zeros above its low byte is that byte (R72, R75). -/
theorem setWidth_byteOperand {arg : Word} (h : reservedBits arg = 0#24) : (byteOperand arg).setWidth 32 = arg :=
  (operand_eq_iff _ _).2 ⟨by rw [reservedBits_setWidth, h], byteOperand_setWidth _⟩

/-! What each format accepts -/

theorem formatZ_eq_ok_iff (i j : Instr) (arg : Word) : formatZ i arg = .ok j ↔ arg = 0#32 ∧ j = i := by
  rw [formatZ]; split <;> simp [*, eq_comm]

theorem formatB_eq_ok_iff (f : Byte → Instr) (j : Instr) (arg : Word) :
    formatB f arg = .ok j ↔ ∃ b : Byte, arg = b.setWidth 32 ∧ j = f b := by
  rw [formatB]
  split
  case isTrue h =>
    refine ⟨fun hok => ⟨byteOperand arg, (setWidth_byteOperand h).symm, by simpa [eq_comm] using hok⟩, ?_⟩
    rintro ⟨b, rfl, rfl⟩
    rw [byteOperand_setWidth]
  case isFalse h =>
    refine ⟨by simp, ?_⟩
    rintro ⟨b, rfl, rfl⟩
    exact absurd (reservedBits_setWidth b) h

/-- Format R is format B with the range check of R75. -/
theorem formatR_eq_ok_iff (f : Byte → Instr) (j : Instr) (arg : Word) :
    formatR f arg = .ok j ↔ ∃ b : Byte, b.toNat ≤ 6 ∧ arg = b.setWidth 32 ∧ j = f b := by
  have hR : formatR f arg = .ok j ↔ (byteOperand arg).toNat ≤ 6 ∧ formatB f arg = .ok j := by
    rw [formatR, formatB]
    split
    case isTrue => split <;> simp_all
    case isFalse => simp
  rw [hR, formatB_eq_ok_iff]
  refine ⟨?_, ?_⟩
  · rintro ⟨hle, b, rfl, rfl⟩
    exact ⟨b, by rwa [byteOperand_setWidth] at hle, rfl, rfl⟩
  · rintro ⟨b, hle, rfl, rfl⟩
    exact ⟨by rwa [byteOperand_setWidth], b, rfl, rfl⟩

theorem formatW_eq_ok_iff (f : Word → Instr) (j : Instr) (arg : Word) : formatW f arg = .ok j ↔ j = f arg := by
  simp [formatW, eq_comm]

/-- What decodes is well formed, and has the fields it was decoded from (R74, R76). -/
theorem fields_of_decodeFields_eq_ok {op : Byte} {arg : Word} {i : Instr} (h : decodeFields op arg = .ok i) :
    i.wellFormed = true ∧ i.opcode = op ∧ i.operand = arg := by
  unfold decodeFields at h
  split at h
  all_goals
    simp only [formatZ_eq_ok_iff, formatB_eq_ok_iff, formatR_eq_ok_iff, formatW_eq_ok_iff, reduceCtorEq] at h
  case h_3 =>
    obtain ⟨idx, hidx, rfl, rfl⟩ := h
    exact ⟨by simpa [Instr.wellFormed] using hidx, rfl, rfl⟩
  case h_13 => subst h; exact ⟨rfl, rfl, rfl⟩
  case h_4 | h_7 | h_9 | h_11 =>
    obtain ⟨b, rfl, rfl⟩ := h
    exact ⟨rfl, rfl, rfl⟩
  all_goals
    obtain ⟨rfl, rfl⟩ := h
    exact ⟨rfl, rfl, rfl⟩

/-- Settles O2: by the formats, each of which accepts the operand field its commands are encoded with. -/
theorem decodeOfEncodeIsTheCommand : Obligations.DecodeOfEncodeIsTheCommand := by
  unfold Obligations.DecodeOfEncodeIsTheCommand
  intro i hi
  rw [decode_encode_eq]
  cases i
  case regRd idx => exact (formatR_eq_ok_iff _ _ _).2 ⟨idx, by simpa [Instr.wellFormed] using hi, rfl, rfl⟩
  case encPush b | decPush b | crcUpd b | frmPush b => exact (formatB_eq_ok_iff _ _ _).2 ⟨b, rfl, rfl⟩
  all_goals rfl

/-- Settles O3: the decoded command has the fields of the word, and its word is made of them. -/
theorem encodeOfDecodeIsTheWord : Obligations.EncodeOfDecodeIsTheWord := by
  unfold Obligations.EncodeOfDecodeIsTheWord
  intro w i h
  obtain ⟨hi, hop, harg⟩ := fields_of_decodeFields_eq_ok h
  exact ⟨hi, by rw [encode, hop, harg, commandWord_fields]⟩

/-- Settles O1: each word of the spec is the word of its command. -/
theorem specWordsDecodeToTheirCommands : Obligations.SpecWordsDecodeToTheirCommands := by
  unfold Obligations.SpecWordsDecodeToTheirCommands
  decide

end Sys2Proof.Machine
end

section
/-! Proofs about the encoding function (40_cobs_encoder.md R90, R91, R96). -/

namespace Sys2Proof.Machine

/-! The loop of R91, byte by byte -/

theorem encLoopStep_zero (v : EncLoop) : encLoopStep v 0x00#8 = ⟨v.out ++ closedBlock v.blk, [], false⟩ := if_pos rfl

theorem encLoopStep_of_fills {v : EncLoop} {b : Byte} (hb : b ≠ 0x00#8) (hlen : v.blk.length + 1 = blockLimit) :
    encLoopStep v b = ⟨v.out ++ 0xFF#8 :: (v.blk ++ [b]), [], true⟩ := by
  rw [encLoopStep, if_neg hb]; exact if_pos (by rw [List.length_append]; exact hlen)

theorem encLoopStep_of_room {v : EncLoop} {b : Byte} (hb : b ≠ 0x00#8) (hlen : v.blk.length + 1 ≠ blockLimit) :
    encLoopStep v b = ⟨v.out, v.blk ++ [b], false⟩ := by
  rw [encLoopStep, if_neg hb]; exact if_neg (by rw [List.length_append]; exact hlen)

theorem encLoop_concat (x : List Byte) (b : Byte) : encLoop (x ++ [b]) = encLoopStep (encLoop x) b := by
  rw [encLoop, List.foldl_append]; rfl

@[simp] theorem encLoop_nil : encLoop [] = ⟨[], [], false⟩ := rfl

/-- Induction along the loop, by the branch that takes the last byte (R91). -/
theorem encLoop_induction {motive : List Byte → Prop} (nil : motive [])
    (zero : ∀ x, encLoop (x ++ [0x00#8]) = ⟨(encLoop x).out ++ closedBlock (encLoop x).blk, [], false⟩ → motive x →
      motive (x ++ [0x00#8]))
    (fills : ∀ x b, b ≠ 0x00#8 → (encLoop x).blk.length + 1 = 254 →
      encLoop (x ++ [b]) = ⟨(encLoop x).out ++ 0xFF#8 :: ((encLoop x).blk ++ [b]), [], true⟩ → motive x → motive (x ++ [b]))
    (room : ∀ x b, b ≠ 0x00#8 → (encLoop x).blk.length + 1 ≠ 254 →
      encLoop (x ++ [b]) = ⟨(encLoop x).out, (encLoop x).blk ++ [b], false⟩ → motive x → motive (x ++ [b]))
    (x : List Byte) : motive x := by
  induction x using List.reverseRecOn with
  | nil => exact nil
  | append_singleton x b ih =>
    by_cases hb : b = 0x00#8
    · subst hb; exact zero x (by rw [encLoop_concat, encLoopStep_zero]) ih
    by_cases hlen : (encLoop x).blk.length + 1 = blockLimit
    · exact fills x b hb hlen (by rw [encLoop_concat, encLoopStep_of_fills hb hlen]) ih
    · exact room x b hb hlen (by rw [encLoop_concat, encLoopStep_of_room hb hlen]) ih

/-! What is emitted after the loop -/

/-- The bytes emitted when the message ends where the loop stands: those before, and the block still owed (R91). -/
def EncLoop.finish (trail : Bool) (v : EncLoop) : List Byte :=
  if v.full && !trail then v.out else v.out ++ closedBlock v.blk

theorem cobsEncode_eq_finish (trail : Bool) (x : List Byte) : cobsEncode trail x = (encLoop x).finish trail := rfl

@[simp] theorem EncLoop.finish_of_nothing_owed {v : EncLoop} (h : v.full = true) : v.finish false = v.out :=
  if_pos (by simp [h])

@[simp] theorem EncLoop.finish_of_not_full {v : EncLoop} (trail : Bool) (h : v.full = false) :
    v.finish trail = v.out ++ closedBlock v.blk := if_neg (by simp [h])

@[simp] theorem EncLoop.finish_true (v : EncLoop) : v.finish true = v.out ++ closedBlock v.blk := if_neg (by simp)

/-! The block under construction -/

theorem encLoop_blk_length (x : List Byte) : (encLoop x).blk.length = trailingRun x % 254 := by
  induction x using encLoop_induction with
  | nil => rfl
  | zero x hloop ih => rw [hloop, trailingRun_append_zero]; rfl
  | fills x b hb hlen hloop ih =>
    rw [hloop, trailingRun_append_nonzero x b hb, List.length_nil]
    omega
  | room x b hb hlen hloop ih =>
    rw [hloop, trailingRun_append_nonzero x b hb, List.length_append, List.length_singleton]
    omega

theorem encLoop_blk_length_le (x : List Byte) : (encLoop x).blk.length ≤ 253 := by
  rw [encLoop_blk_length]; omega

/-- The buffered bytes are the last of the message (R91). -/
theorem encLoop_blk_suffix (x : List Byte) : (encLoop x).blk <:+ x := by
  induction x using encLoop_induction with
  | nil => exact List.suffix_refl _
  | zero x hloop _ => rw [hloop]; exact List.nil_suffix
  | fills x b _ _ hloop _ => rw [hloop]; exact List.nil_suffix
  | room x b _ _ hloop ih =>
    obtain ⟨y, hy⟩ := ih
    rw [hloop]
    exact ⟨y, by rw [← List.append_assoc, hy]⟩

theorem zero_not_mem_concat {data : List Byte} {b : Byte} (hdata : 0x00#8 ∉ data) (hb : b ≠ 0x00#8) : 0x00#8 ∉ data ++ [b] := by
  simpa [hdata] using Ne.symm hb

/-- A zero closes the block and is never buffered (R91). -/
theorem zero_not_mem_encLoop_blk (x : List Byte) : 0x00#8 ∉ (encLoop x).blk := by
  induction x using encLoop_induction with
  | nil => exact List.not_mem_nil
  | zero x hloop _ => rw [hloop]; exact List.not_mem_nil
  | fills x b _ _ hloop _ => rw [hloop]; exact List.not_mem_nil
  | room x b hb _ hloop ih => rw [hloop]; exact zero_not_mem_concat ih hb

/-- `full` is set exactly after a byte that filled a block (R91). -/
theorem encLoop_full_iff (x : List Byte) : (encLoop x).full = true ↔ 0 < trailingRun x ∧ trailingRun x % 254 = 0 := by
  induction x using encLoop_induction with
  | nil => simp [trailingRun]
  | zero x hloop _ => simp [hloop]
  | fills x b hb hlen hloop _ =>
    rw [encLoop_blk_length] at hlen
    rw [hloop, trailingRun_append_nonzero x b hb]
    simp only [true_iff]
    omega
  | room x b hb hlen hloop _ =>
    rw [encLoop_blk_length] at hlen
    rw [hloop, trailingRun_append_nonzero x b hb]
    simp only [Bool.false_eq_true, false_iff]
    omega

/-- While `full` is set the last thing emitted is the full block of the last 254 bytes of the message (R91). -/
theorem encLoop_of_full {x : List Byte} (hfull : (encLoop x).full = true) : (encLoop x).blk = [] ∧
    ∃ d z : List Byte, d <:+ x ∧ d.length = 254 ∧ 0x00#8 ∉ d ∧ (encLoop x).out = z ++ 0xFF#8 :: d := by
  induction x using encLoop_induction with
  | nil => contradiction
  | zero x hloop _ => rw [hloop] at hfull; contradiction
  | room x b _ _ hloop _ => rw [hloop] at hfull; contradiction
  | fills x b hb hlen hloop _ =>
    obtain ⟨y, hy⟩ := encLoop_blk_suffix x
    rw [hloop]
    exact ⟨rfl, (encLoop x).blk ++ [b], (encLoop x).out, ⟨y, by rw [← List.append_assoc, hy]⟩, by simpa using hlen,
      zero_not_mem_concat (zero_not_mem_encLoop_blk x) hb, rfl⟩

/-- Settles O31: `full` decides whether the settings differ, and the run the message ends with decides `full`. -/
theorem theParameterAddsAtMostOneByte : Obligations.TheParameterAddsAtMostOneByte := by
  unfold Obligations.TheParameterAddsAtMostOneByte
  refine fun x => ⟨fun hpos hmod => ?full, fun hrun => ?notFull⟩
  case full =>
    have hfull := (encLoop_full_iff x).2 ⟨hpos, hmod⟩
    obtain ⟨hblk, d, z, hd, hlen, hzero, hout⟩ := encLoop_of_full hfull
    have hfalse : cobsEncode false x = (encLoop x).out := EncLoop.finish_of_nothing_owed hfull
    refine ⟨hfull, ?_, d, z, hd, hlen, hzero, hfalse.trans hout⟩
    rw [hfalse, cobsEncode_eq_finish, EncLoop.finish_true, hblk]
    rfl
  case notFull =>
    have hfull : (encLoop x).full = false := by
      rw [← Bool.not_eq_true, encLoop_full_iff]
      omega
    exact ⟨hfull, by rw [cobsEncode_eq_finish, cobsEncode_eq_finish, EncLoop.finish_of_not_full _ hfull,
      EncLoop.finish_of_not_full _ hfull]⟩

/-! The length of an encoding -/

/-- Each full block costs one byte and stands for 254 bytes of the message, and after it comes more of the message while `full` is
clear (R96 (c)); `k` is the number of full blocks. -/
theorem encLoop_full_blocks (x : List Byte) : ∃ k : Nat,
    (encLoop x).out.length + (encLoop x).blk.length = x.length + k ∧ 254 * k + (encLoop x).blk.length ≤ x.length ∧
    ((encLoop x).full = true → 1 ≤ k) ∧ ((encLoop x).full = false → k = 0 ∨ 254 * k + 1 ≤ x.length) := by
  induction x using encLoop_induction with
  | nil => exact ⟨0, by simp⟩
  | zero x hloop ih =>
    obtain ⟨k, hlen, hk, -, -⟩ := ih
    refine ⟨k, ?_⟩
    simp [hloop, closedBlock]
    omega
  | fills x b _ hfills hloop ih =>
    obtain ⟨k, hlen, hk, -, -⟩ := ih
    refine ⟨k + 1, ?_⟩
    simp [hloop]
    omega
  | room x b _ _ hloop ih =>
    obtain ⟨k, hlen, hk, -, -⟩ := ih
    refine ⟨k, ?_⟩
    simp [hloop]
    omega

theorem closedBlock_length (data : List Byte) : (closedBlock data).length = data.length + 1 := rfl

/-- Settles O30: the overhead is the number of full blocks and one more for a block still owed. -/
theorem encodingOverheadIsBounded : Obligations.EncodingOverheadIsBounded := by
  unfold Obligations.EncodingOverheadIsBounded
  intro x
  obtain ⟨k, hlen, hk, hfull, hnotFull⟩ := encLoop_full_blocks x
  have htrue : (cobsEncode true x).length = x.length + k + 1 := by
    rw [cobsEncode_eq_finish, EncLoop.finish_true, List.length_append, closedBlock_length]
    omega
  refine ⟨?_, by omega⟩
  cases hf : (encLoop x).full with
  | true =>
    obtain ⟨hblk, -⟩ := encLoop_of_full hf
    rw [hblk, List.length_nil] at hlen hk
    have hk1 := hfull hf
    rw [cobsEncode_eq_finish, EncLoop.finish_of_nothing_owed hf]
    omega
  | false =>
    have hcount := hnotFull hf
    rw [cobsEncode_eq_finish, EncLoop.finish_of_not_full _ hf, List.length_append, closedBlock_length]
    omega

/-! Blocks -/

theorem wellFormedBlock_iff (b : CobsBlock) :
    wellFormedBlock b = true ↔ b.data.length + 1 = b.code.toNat ∧ 0x00#8 ∉ b.data := by
  rw [wellFormedBlock, Bool.and_eq_true, beq_iff_eq, List.all_eq_true, ← List.forall_mem_ne']
  simp only [bne_iff_ne, ne_eq]

theorem blocksBytes_append (bs cs : List CobsBlock) : blocksBytes (bs ++ cs) = blocksBytes bs ++ blocksBytes cs :=
  List.flatMap_append

/-- What a block that is not the last stands for: its data, and a zero if its code is not 0xFF (R90). -/
def closedMessage (bs : List CobsBlock) : List Byte :=
  bs.flatMap fun b => b.data ++ if b.code != 0xFF#8 then [0x00#8] else []

theorem closedMessage_concat (bs : List CobsBlock) (b : CobsBlock) :
    closedMessage (bs ++ [b]) = closedMessage bs ++ b.data ++ if b.code != 0xFF#8 then [0x00#8] else [] := by
  simp [closedMessage]

theorem blocksMessage_concat (bs : List CobsBlock) (b : CobsBlock) :
    blocksMessage (bs ++ [b]) = closedMessage bs ++ b.data := by
  induction bs with
  | nil => simp [blocksMessage, closedMessage]
  | cons c bs ih => simp [blocksMessage, ih, closedMessage]

/-- The block that leaves when it is closed before it is full (R91, R92). -/
def blockOf (data : List Byte) : CobsBlock := ⟨BitVec.ofNat 8 (data.length + 1), data⟩

theorem blocksBytes_blockOf (data : List Byte) : blocksBytes [blockOf data] = closedBlock data :=
  List.append_nil _

theorem blockOf_code_toNat {data : List Byte} (hlen : data.length ≤ 253) : (blockOf data).code.toNat = data.length + 1 := by
  simp only [blockOf, BitVec.toNat_ofNat]; omega

theorem wellFormedBlock_blockOf {data : List Byte} (hlen : data.length ≤ 253) (hzero : 0x00#8 ∉ data) :
    wellFormedBlock (blockOf data) = true :=
  (wellFormedBlock_iff _).2 ⟨(blockOf_code_toNat hlen).symm, hzero⟩

theorem blockOf_code_ne_full {data : List Byte} (hlen : data.length ≤ 253) : ((blockOf data).code != 0xFF#8) = true := by
  rw [bne_iff_ne]
  intro h
  have hcode := blockOf_code_toNat hlen
  rw [h] at hcode
  simp only [BitVec.toNat_ofNat] at hcode
  omega

theorem forall_wellFormedBlock_concat {bs : List CobsBlock} {c : CobsBlock} (hbs : ∀ b ∈ bs, wellFormedBlock b = true)
    (hc : wellFormedBlock c = true) : ∀ b ∈ bs ++ [c], wellFormedBlock b = true :=
  List.forall_mem_append.2 ⟨hbs, List.forall_mem_singleton.2 hc⟩

/-- What has left is well-formed blocks, which with the buffered bytes stand for the message so far, the last of them a full one
while `full` is set (R91, R96 (b)). -/
theorem encLoop_blocks (x : List Byte) : ∃ bs : List CobsBlock, (∀ b ∈ bs, wellFormedBlock b = true) ∧
    blocksBytes bs = (encLoop x).out ∧ closedMessage bs ++ (encLoop x).blk = x ∧
    ((encLoop x).full = true → ∃ cs c, bs = cs ++ [c] ∧ c.code = 0xFF#8) := by
  induction x using encLoop_induction with
  | nil => exact ⟨[], by simp [blocksBytes, closedMessage]⟩
  | zero x hloop ih =>
    obtain ⟨bs, hwf, hbytes, hmsg, -⟩ := ih
    have hle := encLoop_blk_length_le x
    rw [hloop]
    refine ⟨bs ++ [blockOf (encLoop x).blk],
      forall_wellFormedBlock_concat hwf (wellFormedBlock_blockOf hle (zero_not_mem_encLoop_blk x)), ?_, ?_, by simp⟩
    · rw [blocksBytes_append, blocksBytes_blockOf, hbytes]
    · rw [closedMessage_concat, if_pos (blockOf_code_ne_full hle), List.append_nil]
      exact congrArg (· ++ [0x00#8]) hmsg
  | fills x b hb hlen hloop ih =>
    obtain ⟨bs, hwf, hbytes, hmsg, -⟩ := ih
    have hblock : wellFormedBlock ⟨0xFF#8, (encLoop x).blk ++ [b]⟩ = true :=
      (wellFormedBlock_iff _).2 ⟨by simpa using hlen, zero_not_mem_concat (zero_not_mem_encLoop_blk x) hb⟩
    rw [hloop]
    refine ⟨bs ++ [⟨0xFF#8, (encLoop x).blk ++ [b]⟩], forall_wellFormedBlock_concat hwf hblock, ?_, ?_,
      fun _ => ⟨bs, _, rfl, rfl⟩⟩
    · rw [blocksBytes_append, hbytes]; simp [blocksBytes]
    · rw [closedMessage_concat]; simpa using congrArg (· ++ [b]) hmsg
  | room x b _ _ hloop ih =>
    obtain ⟨bs, hwf, hbytes, hmsg, -⟩ := ih
    rw [hloop]
    exact ⟨bs, hwf, hbytes, by rw [← List.append_assoc, hmsg], by simp⟩

/-- Settles O29: the blocks that have left, followed by the block still owed; where none is owed the last that left is full. -/
theorem encodingIsBlocksOfTheMessage : Obligations.EncodingIsBlocksOfTheMessage := by
  unfold Obligations.EncodingIsBlocksOfTheMessage
  intro trail x
  obtain ⟨bs, hwf, hbytes, hmsg, hlast⟩ := encLoop_blocks x
  by_cases howed : ((encLoop x).full && !trail) = true
  · have hfull : (encLoop x).full = true := (Bool.and_eq_true _ _ ▸ howed).1
    obtain ⟨cs, c, rfl, hcode⟩ := hlast hfull
    obtain ⟨hblk, -⟩ := encLoop_of_full hfull
    refine ⟨cs ++ [c], by simp, hwf, ?_, ?_⟩
    · rw [hbytes, cobsEncode_eq_finish, EncLoop.finish, if_pos howed]
    · rw [blocksMessage_concat]
      simpa [closedMessage_concat, hcode, hblk] using hmsg
  · refine ⟨bs ++ [blockOf (encLoop x).blk], by simp, forall_wellFormedBlock_concat hwf
      (wellFormedBlock_blockOf (encLoop_blk_length_le x) (zero_not_mem_encLoop_blk x)), ?_, ?_⟩
    · rw [blocksBytes_append, blocksBytes_blockOf, hbytes, cobsEncode_eq_finish, EncLoop.finish, if_neg howed]
    · rw [blocksMessage_concat]
      exact hmsg

/-- The bytes of well-formed blocks hold no zero: neither a code nor a data byte is one (R90). -/
theorem zero_not_mem_blocksBytes {bs : List CobsBlock} (hwf : ∀ b ∈ bs, wellFormedBlock b = true) :
    0x00#8 ∉ blocksBytes bs := by
  intro h
  obtain ⟨b, hb, hmem⟩ := List.mem_flatMap.1 h
  obtain ⟨hlen, hdata⟩ := (wellFormedBlock_iff b).1 (hwf b hb)
  rcases List.mem_cons.1 hmem with hcode | hmem
  · simp [← hcode] at hlen
  · exact hdata hmem

/-- Settles O28: an encoding is well-formed blocks, which hold no zero. -/
theorem encodingHoldsNoZero : Obligations.EncodingHoldsNoZero := by
  unfold Obligations.EncodingHoldsNoZero
  intro trail x
  obtain ⟨bs, -, hwf, hbytes, -⟩ := encodingIsBlocksOfTheMessage trail x
  rw [← hbytes]
  exact zero_not_mem_blocksBytes hwf

end Sys2Proof.Machine
end

section
/-! Proofs about the decoding function (41_cobs_decoder.md R101, R103). -/

namespace Sys2Proof.Machine

/-! The loop of R101, byte by byte -/

theorem decLoopStep_code {v : DecLoop} (e : Byte) (hrem : v.rem = 0#8) :
    decLoopStep v e = ⟨v.out ++ if v.zero then [0x00#8] else [], e - 1#8, e != 0xFF#8⟩ := by
  rw [decLoopStep, if_pos hrem]
  cases v.zero <;> simp

theorem decLoopStep_data {v : DecLoop} (e : Byte) (hrem : v.rem ≠ 0#8) :
    decLoopStep v e = ⟨v.out ++ [e], v.rem - 1#8, v.zero⟩ := if_neg hrem

/-- The data of a block passes through, and ends it when it is as long as its code byte said (R101). -/
theorem decLoop_data {v : DecLoop} {data : List Byte} (hrem : v.rem.toNat = data.length) :
    data.foldl decLoopStep v = ⟨v.out ++ data, 0#8, v.zero⟩ := by
  induction data generalizing v with
  | nil =>
    have hzero : v.rem = 0#8 := BitVec.eq_of_toNat_eq hrem
    simp [← hzero]
  | cons e data ih =>
    rw [List.length_cons] at hrem
    have hne : v.rem ≠ 0#8 := by rintro h; simp [h] at hrem
    have hnext : (v.rem - 1#8).toNat = data.length := by bv_omega
    rw [List.foldl_cons, decLoopStep_data e hne, ih hnext, List.append_assoc, List.singleton_append]

/-- A well-formed block at a block boundary: the zero owed before it, then its data (R101). -/
theorem decLoop_block {v : DecLoop} {b : CobsBlock} (hb : wellFormedBlock b = true) (hrem : v.rem = 0#8) :
    (b.code :: b.data).foldl decLoopStep v =
      ⟨v.out ++ (if v.zero then [0x00#8] else []) ++ b.data, 0#8, b.code != 0xFF#8⟩ := by
  obtain ⟨hlen, -⟩ := (wellFormedBlock_iff b).1 hb
  have hdata : (b.code - 1#8).toNat = b.data.length := by bv_omega
  rw [List.foldl_cons, decLoopStep_code _ hrem, decLoop_data hdata]

/-- From a block boundary, well-formed blocks leave the zero owed before them and then what they stand for (R101, R103 (c)). -/
theorem decLoop_blocks {bs : List CobsBlock} (hne : bs ≠ []) (hwf : ∀ b ∈ bs, wellFormedBlock b = true) (v : DecLoop)
    (hrem : v.rem = 0#8) : ∃ owed, (blocksBytes bs).foldl decLoopStep v =
      ⟨v.out ++ (if v.zero then [0x00#8] else []) ++ blocksMessage bs, 0#8, owed⟩ := by
  induction bs generalizing v with
  | nil => contradiction
  | cons b rest ih =>
    obtain ⟨hb, hrest⟩ := List.forall_mem_cons.1 hwf
    have hsplit : blocksBytes (b :: rest) = (b.code :: b.data) ++ blocksBytes rest := List.flatMap_cons
    rw [hsplit, List.foldl_append, decLoop_block hb hrem]
    by_cases hlast : rest = []
    · subst hlast
      exact ⟨b.code != 0xFF#8, by simp [blocksBytes, blocksMessage]⟩
    · obtain ⟨owed, hloop⟩ := ih hlast hrest ⟨_, 0#8, b.code != 0xFF#8⟩ rfl
      exact ⟨owed, by rw [hloop]; simp [blocksMessage, hlast]⟩

theorem blocksBytes_ne_nil {bs : List CobsBlock} (hne : bs ≠ []) : blocksBytes bs ≠ [] := by
  obtain ⟨b, rest, rfl⟩ := List.exists_cons_of_ne_nil hne
  exact List.cons_ne_nil _ _

/-- Settles O35: the loop ends at a block boundary with the message out, and the frame is not empty. -/
theorem wellFormedFramesDecode : Obligations.WellFormedFramesDecode := by
  unfold Obligations.WellFormedFramesDecode
  intro bs hne hwf
  obtain ⟨owed, hloop⟩ := decLoop_blocks hne hwf ⟨[], 0#8, false⟩ rfl
  simp [cobsDecode, decLoop, hloop, blocksBytes_ne_nil hne]

/-- Settles O34: an encoding is well-formed blocks that stand for the message, and those decode to it. -/
theorem decodeOfCobsEncodeIsTheMessage : Obligations.DecodeOfCobsEncodeIsTheMessage := by
  unfold Obligations.DecodeOfCobsEncodeIsTheMessage
  intro trail x
  obtain ⟨bs, hne, hwf, hbytes, hmsg⟩ := encodingIsBlocksOfTheMessage trail x
  rw [← hbytes, wellFormedFramesDecode bs hne hwf, hmsg]

end Sys2Proof.Machine
end

section
/-! Proofs about running lists of commands (20_memory.md R60): a list of one command for each byte of a message, and commands of
other units in between. -/

namespace Sys2Proof.Machine

/-! One command for each byte -/

/-- A list of one command is the command. -/
theorem execList_singleton (i : Instr) (s : State) : execList [i] s = exec i s := by
  rw [execList]
  cases exec i s <;> simp [execList]

theorem State.done_finish (o : CmdOutcome) (r : Option Word) (s : State) : (s.finish o r).done = s.done := rfl

section
variable {c : Byte → Instr} {f : Byte → State → State}

/-- The state changes of a message's bytes in order. -/
def foldBytes (f : Byte → State → State) (x : List Byte) (s : State) : State := x.foldl (fun u b => f b u) s

@[simp] theorem foldBytes_nil (s : State) : foldBytes f [] s = s := rfl

@[simp] theorem foldBytes_cons (b : Byte) (x : List Byte) (s : State) : foldBytes f (b :: x) s = foldBytes f x (f b s) := rfl

theorem foldBytes_append (x y : List Byte) (s : State) : foldBytes f (x ++ y) s = foldBytes f y (foldBytes f x s) :=
  List.foldl_append

theorem foldBytes_finish (hfinish : ∀ b o r s, f b (s.finish o r) = (f b s).finish o r) (x : List Byte) (o : CmdOutcome)
    (r : Option Word) (s : State) : foldBytes f x (s.finish o r) = (foldBytes f x s).finish o r := by
  induction x generalizing s with
  | nil => rfl
  | cons b x ih => rw [foldBytes_cons, hfinish, ih, foldBytes_cons]

/-- Completing commands that do not read the result and outcome of the command before do their state changes in order, and a
last command that does not read them either finds the state these leave (R60). -/
theorem execList_map_append_singleton (hexec : ∀ b s, exec (c b) s = (f b s).done)
    (hfinish : ∀ b o r s, f b (s.finish o r) = (f b s).finish o r) {last : Instr}
    (hlast : ∀ o r s, exec last (s.finish o r) = exec last s) (x : List Byte) (s : State) :
    execList (x.map c ++ [last]) s = exec last (foldBytes f x s) := by
  induction x generalizing s with
  | nil => exact execList_singleton last s
  | cons b x ih =>
    rw [List.map_cons, List.cons_append, execList_cons_of_done _ (hexec b s), ih, foldBytes_finish hfinish, hlast, foldBytes_cons]

/-- The same for a message alone (R60). -/
theorem execList_map (hexec : ∀ b s, exec (c b) s = (f b s).done)
    (hfinish : ∀ b o r s, f b (s.finish o r) = (f b s).finish o r) {x : List Byte} (hx : x ≠ []) (s : State) :
    execList (x.map c) s = (foldBytes f x s).done := by
  have hlast : ∀ b o r s, exec (c b) (s.finish o r) = exec (c b) s := by
    intro b o r s
    rw [hexec, hexec, hfinish, State.done_finish]
  have hsplit := x.dropLast_append_getLast hx
  rw [← hsplit, List.map_append, List.map_singleton, execList_map_append_singleton hexec hfinish (hlast _), hexec,
    foldBytes_append, foldBytes_cons, foldBytes_nil]

end

/-! Commands of other units in between -/

section
variable {α : Type} {view : State → α} {uses : Instr → Bool}

/-- What a command does to a part of the state depends on that part alone, and the command completes. -/
def ActsOn (view : State → α) (i : Instr) : Prop :=
  ∃ f : State → State, (∀ s, ∃ r, exec i s = .next ((f s).finish .done r)) ∧
    ∀ s u o r p q, view s = view u → view ((f s).finish o r) = view ((f u).finish p q)

/-- A program leaves in a part of the state what its commands that use that part leave when they run alone, if no other command
of it but RESET writes there (R183). -/
theorem view_execList_filter (hskip : ∀ i s t, i ≠ .reset → uses i = false → exec i s = .next t → view t = view s)
    {prog : List Instr} (hreset : .reset ∉ prog) (hacts : ∀ i ∈ prog.filter uses, ActsOn view i) {s u t v : State}
    (hview : view s = view u) (hrun : execList prog s = .next t) (hheld : t.outcome ≠ .held)
    (halone : execList (prog.filter uses) u = .next v) : view t = view v := by
  induction prog generalizing s u with
  | nil =>
    cases hrun
    cases halone
    exact hview
  | cons i rest ih =>
    obtain ⟨hi, hrest⟩ := not_or.1 (List.mem_cons.not.1 hreset)
    cases huses : uses i with
    | false =>
      rw [List.filter_cons_of_neg (by simp [huses])] at hacts halone
      rw [execList] at hrun
      split at hrun
      · rename_i s' hexec
        have hsame : view s' = view s := hskip i s s' (Ne.symm hi) huses hexec
        split at hrun
        · cases hrun; contradiction
        · exact ih hrest hacts (hsame.trans hview) hrun halone
      all_goals contradiction
    | true =>
      rw [List.filter_cons_of_pos huses] at hacts halone
      obtain ⟨hact, hacts⟩ := List.forall_mem_cons.1 hacts
      obtain ⟨f, hexec, hcongr⟩ := hact
      obtain ⟨r, hs⟩ := hexec s
      obtain ⟨q, hu⟩ := hexec u
      simp only [execList, hs, State.finish_outcome, reduceCtorEq, if_false] at hrun
      simp only [execList, hu, State.finish_outcome, reduceCtorEq, if_false] at halone
      exact ih hrest hacts (hcongr s u _ _ _ _ hview) hrun halone

end

end Sys2Proof.Machine
end

section
/-! Proofs about the samples a waiter's command takes (20_memory.md R57, 44_interval_waiter.md R134, R136). -/

namespace Sys2Proof.Machine

/-- Settles O52: by whether a sample is listed. -/
theorem samplesAreTakenInOrder : Obligations.SamplesAreTakenInOrder := by
  unfold Obligations.SamplesAreTakenInOrder
  refine fun s => ⟨fun now rest h => ⟨s.nextSample_listed now rest h, ?listed⟩, fun h => ⟨s.nextSample_free h, ?free⟩⟩
  case listed => simp [State.takeSample, h]
  case free => simp [State.takeSample, h]

/-- Polls write the deadline, the last sample and the environment's fields, and nothing else (R134). -/
theorem polls_frame (n : Nat) (s : State) : polls n s =
    { s with timeIn := s.timeIn.drop n, draws := (polls n s).draws, iwDeadline := (polls n s).iwDeadline,
             iwNow := (polls n s).iwNow } ∧ s.draws ≤ (polls n s).draws := by
  induction n generalizing s with
  | zero => exact ⟨rfl, Nat.le_refl _⟩
  | succ n ih =>
    obtain ⟨hframe, hdraws⟩ := ih (pollState s)
    have hdrop : (pollState s).timeIn.drop n = s.timeIn.drop (n + 1) := by rw [pollState_timeIn, List.drop_tail]
    have hone : s.draws ≤ (pollState s).draws := by rw [pollState_draws]; split <;> omega
    refine ⟨?_, hone.trans hdraws⟩
    rw [hdrop] at hframe
    exact hframe

/-- A wait that answers has polled, and completes with a result or is held without one (R136). -/
theorem waitRounds_next {n : Nat} {s t : State} (h : waitRounds n s = .next t) :
    ∃ k, t = (polls k s).finish .done (some 1#32) ∨ t = (polls k s).finish .held none := by
  rcases waitRounds_cases n s with ⟨k, -, -, -, he⟩ | ⟨-, he⟩
  · exact ⟨k + 1, .inl ((State.result_next _ _ _).1 (he ▸ h))⟩
  · exact ⟨n, .inr ((State.hold_next _ _).1 (he ▸ h))⟩

theorem waitRounds_frame {n : Nat} {s t : State} (h : waitRounds n s = .next t) :
    s.draws ≤ t.draws ∧ ∃ k, t =
      { s with timeIn := s.timeIn.drop k, draws := t.draws, iwDeadline := t.iwDeadline, iwNow := t.iwNow, res := t.res,
               outcome := t.outcome } := by
  obtain ⟨k, hk⟩ := waitRounds_next h
  obtain ⟨hframe, hdraws⟩ := polls_frame k s
  rcases hk with rfl | rfl
  · exact ⟨hdraws, k, congrArg (State.finish .done (some 1#32)) hframe⟩
  · exact ⟨hdraws, k, congrArg (State.finish .held none) hframe⟩

/-! IW.WAIT by whether the waiter is configured -/

theorem exec_iwWait_of_unconfigured {s : State} (h : s.iwInterval = 0#32) : exec .iwWait s = s.raise .iwuncfg := if_pos h

theorem exec_iwWait_of_configured {s : State} (h : s.iwInterval ≠ 0#32) :
    exec .iwWait s = waitRounds (max 1 s.timeIn.length) s := if_neg h

/-- Settles O56: the interval is looked at first. -/
theorem waitOfAnUnconfiguredWaiterIsAnError : Obligations.WaitOfAnUnconfiguredWaiterIsAnError := by
  unfold Obligations.WaitOfAnUnconfiguredWaiterIsAnError
  intro s h
  rw [exec_iwWait_of_unconfigured h]
  rfl

/-! REG.RD by its index -/

/-- The reserved indexes are those above 6 (R40). -/
theorem regView_eq_none_iff (idx : Byte) (s : State) : s.regView idx = none ↔ 6 < idx.toNat := by
  unfold State.regView
  split
  case h_8 =>
    rename_i h0 h1 h2 h3 h4 h5 h6
    simp only [imp_false, ← BitVec.toNat_inj, BitVec.toNat_ofNat] at h0 h1 h2 h3 h4 h5 h6
    simp only [true_iff]
    omega
  all_goals simp

theorem exec_regRd_of_reserved {idx : Byte} {s : State} (h : s.regView idx = none) : exec (.regRd idx) s = s.raise .ill := by
  rw [exec, execRegRd, h]

/-- Settles O23: a reserved index has no view, and without one the command raises ILL. -/
theorem regRdOfAReservedIndexIsIllegal : Obligations.RegRdOfAReservedIndexIsIllegal := by
  unfold Obligations.RegRdOfAReservedIndexIsIllegal
  intro s idx h
  rw [exec_regRd_of_reserved ((regView_eq_none_iff idx s).2 h)]
  rfl

end Sys2Proof.Machine
end

section
/-! Proofs about what a command can answer, said once for all fifteen (00_scope.md R7), and what follows for the step. -/

namespace Sys2Proof.Machine

/-- What each command answers, by its branches: the state change and how the command ends. -/
inductive Runs : Instr → State → State → Prop where
  | nop (s : State) : Runs .nop s (s.finish .done none)
  | reset (s : State) : Runs .reset s ((resetBlock s).finish .done none)
  | regRd {s : State} {idx : Byte} {v : Word} (h : s.regView idx = some v) : Runs (.regRd idx) s (s.finish .done (some v))
  | regRdReserved {s : State} {idx : Byte} (h : s.regView idx = none) :
      Runs (.regRd idx) s ((s.setErr .ill).finish (.error .ill) none)
  | encPush (b : Byte) (s : State) : Runs (.encPush b) s ((encPush b s).finish .done none)
  | encEnd (s : State) : Runs .encEnd s ((encEnd s).finish .done none)
  | encDelim (s : State) : Runs .encDelim s ((encDelim s).finish .done none)
  | decPush (e : Byte) (s : State) : Runs (.decPush e) s ((decPush e s).finish .done none)
  | crcClr (s : State) : Runs .crcClr s ((crcClr s).finish .done none)
  | crcUpd (b : Byte) (s : State) : Runs (.crcUpd b) s ((crcUpd b s).finish .done none)
  | crcRd (s : State) : Runs .crcRd s (s.finish .done (some (s.crc.setWidth 32)))
  | frmPush (b : Byte) (s : State) : Runs (.frmPush b) s ((frmPush b s).finish .done none)
  | frmEnd (s : State) : Runs .frmEnd s ((frmEnd s).finish .done none)
  | iwCfgZero (s : State) : Runs (.iwCfg 0#32) s ((s.setErr .iwcfg0).finish (.error .iwcfg0) none)
  | iwCfg {w : Word} (s : State) (h : w ≠ 0#32) :
      Runs (.iwCfg w) s (State.finish .done none { s with iwInterval := w, iwDeadline := 0#32, iwNow := 0#32 })
  | iwPollUnconfigured {s : State} (h : s.iwInterval = 0#32) :
      Runs .iwPoll s ((s.setErr .iwuncfg).finish (.error .iwuncfg) none)
  | iwPoll {s : State} (h : s.iwInterval ≠ 0#32) :
      Runs .iwPoll s ((pollState s).finish .done (some (if pollTick s then 1#32 else 0#32)))
  | iwWaitUnconfigured {s : State} (h : s.iwInterval = 0#32) :
      Runs .iwWait s ((s.setErr .iwuncfg).finish (.error .iwuncfg) none)
  | iwWait {s t : State} (h : s.iwInterval ≠ 0#32) (hw : waitRounds (max 1 s.timeIn.length) s = .next t) : Runs .iwWait s t

theorem exec_of_runs {i : Instr} {s t : State} (h : Runs i s t) : exec i s = .next t := by
  cases h
  case regRd h => exact exec_regRd_of_view h
  case regRdReserved h => exact exec_regRd_of_reserved h
  case iwCfg h => exact exec_iwCfg_of_ne_zero s h
  case iwPollUnconfigured h => exact exec_iwPoll_of_unconfigured h
  case iwPoll h => exact exec_iwPoll_of_configured h
  case iwWaitUnconfigured h => exact exec_iwWait_of_unconfigured h
  case iwWait h hw => rw [exec_iwWait_of_configured h, hw]
  all_goals rfl

/-- Every command answers a next state (R7). -/
theorem exists_runs (i : Instr) (s : State) : ∃ t, Runs i s t := by
  cases i
  case regRd idx =>
    cases h : s.regView idx with
    | none => exact ⟨_, .regRdReserved h⟩
    | some v => exact ⟨_, .regRd h⟩
  case iwCfg w =>
    by_cases h : w = 0#32
    · subst h; exact ⟨_, .iwCfgZero s⟩
    · exact ⟨_, .iwCfg s h⟩
  case iwPoll =>
    by_cases h : s.iwInterval = 0#32
    · exact ⟨_, .iwPollUnconfigured h⟩
    · exact ⟨_, .iwPoll h⟩
  case iwWait =>
    by_cases h : s.iwInterval = 0#32
    · exact ⟨_, .iwWaitUnconfigured h⟩
    rcases waitRounds_cases (max 1 s.timeIn.length) s with ⟨k, -, -, -, hw⟩ | ⟨-, hw⟩
    · exact ⟨_, .iwWait h hw⟩
    · exact ⟨_, .iwWait h hw⟩
  all_goals exact ⟨_, by constructor⟩

theorem exec_next_iff (i : Instr) (s t : State) : exec i s = .next t ↔ Runs i s t := by
  refine ⟨fun h => ?_, exec_of_runs⟩
  obtain ⟨u, hu⟩ := exists_runs i s
  rw [exec_of_runs hu, Host.Outcome.next.injEq] at h
  exact h ▸ hu

/-! The step -/

theorem step_of_decode_ok {s t : State} {w : CmdWord} {rest : List CmdWord} {i : Instr} (hcmds : s.cmds = w :: rest)
    (hdecode : decode w = .ok i) (hexec : exec i s = .next t) : step s = .next t.advance := by
  simp [step, hcmds, hdecode, hexec, retire]

/-- Settles O7: an illegal word and every command have a next state. -/
theorem everyStepAnswersANextState : Obligations.EveryStepAnswersANextState := by
  unfold Obligations.EveryStepAnswersANextState
  intro s
  cases hcmds : s.cmds with
  | nil => exact ⟨s, by rw [step, hcmds]⟩
  | cons w rest =>
    cases hdecode : decode w with
    | illegal r => exact ⟨_, step_of_decode_illegal hcmds hdecode⟩
    | ok i =>
      obtain ⟨t, ht⟩ := exists_runs i s
      exact ⟨_, step_of_decode_ok hcmds hdecode (exec_of_runs ht)⟩

/-- Settles O6: without a word the step is idle. -/
theorem stepWithoutACommandChangesNothing : Obligations.StepWithoutACommandChangesNothing := by
  unfold Obligations.StepWithoutACommandChangesNothing
  intro s hcmds
  rw [step, hcmds]

/-- No command changes the host's words or the parameter; samples are taken in order (R57, R60). -/
theorem runs_environment {i : Instr} {s t : State} (h : Runs i s t) :
    t.cmds = s.cmds ∧ t.params = s.params ∧ (∃ n, t.timeIn = s.timeIn.drop n) ∧ s.draws ≤ t.draws := by
  cases h
  case iwPoll h =>
    obtain ⟨-, hdraws⟩ := polls_frame 1 s
    exact ⟨rfl, rfl, ⟨1, List.drop_one.symm⟩, hdraws⟩
  case iwWait h hw =>
    obtain ⟨hdraws, k, hframe⟩ := waitRounds_frame hw
    exact ⟨by rw [hframe], by rw [hframe], ⟨k, by rw [hframe]⟩, hdraws⟩
  all_goals exact ⟨by simp, by simp, ⟨0, by simp⟩, by simp⟩

/-- Settles O5: the word at the port is still the head when the command has run, and `State.advance` takes it off. -/
theorem stepRunsTheDecodedCommand : Obligations.StepRunsTheDecodedCommand := by
  unfold Obligations.StepRunsTheDecodedCommand
  intro s t w rest i hcmds hdecode hexec
  obtain ⟨htcmds, -⟩ := runs_environment ((exec_next_iff i s t).1 hexec)
  rw [step_of_decode_ok hcmds hdecode hexec, State.advance, htcmds, hcmds, List.tail_cons]

/-- How a command can end: done, held without a result if it is IW.WAIT, or with an error and no result (R7, R156). -/
theorem runs_outcome {i : Instr} {s t : State} (h : Runs i s t) :
    t.outcome = .done ∨ t.outcome = .held ∧ t.res = none ∧ i = .iwWait ∧ s.iwInterval ≠ 0#32 ∨
    t.res = none ∧ (t.outcome = .error .ill ∨ t.outcome = .error .iwcfg0 ∨ t.outcome = .error .iwuncfg) := by
  cases h
  case iwWait h hw =>
    obtain ⟨k, rfl | rfl⟩ := waitRounds_next hw
    · exact .inl rfl
    · exact .inr (.inl ⟨rfl, rfl, rfl, h⟩)
  all_goals simp

/-- Settles O8: by the ways a command can end. -/
theorem onlyWaitCanBeHeld : Obligations.OnlyWaitCanBeHeld := by
  unfold Obligations.OnlyWaitCanBeHeld
  intro i s t hexec
  rcases runs_outcome ((exec_next_iff i s t).1 hexec) with h | ⟨h, hres, rfl, -⟩ | ⟨hres, h | h | h⟩ <;> simp [*]

end Sys2Proof.Machine
end

section
/-! Proofs about what a command reads and what it writes (10_state.md R22 to R42): each state change as a function of the
registers it reads, and the commands' frames. -/

namespace Sys2Proof.Machine

/-! What the conditional updates do to every state that agrees on what they read -/

/-- ENC.PUSH reads the buffer alone, and appends to `tx` (R92). -/
theorem encPush_uniform (b : Byte) (s : State) : ∃ bs buf full, ∀ u : State, u.encBuf = s.encBuf →
    encPush b u = { u with tx := u.tx ++ bs, encBuf := buf, encFull := full } := by
  by_cases hb : b = 0x00#8
  · subst hb
    exact ⟨closedBlock s.encBuf, [], false, fun u hu => by rw [encPush_zero, hu]; rfl⟩
  by_cases hlen : s.encBuf.length + 1 = blockLimit
  · exact ⟨0xFF#8 :: (s.encBuf ++ [b]), [], true, fun u hu => by rw [encPush_of_fills hb (hu ▸ hlen), hu]; rfl⟩
  · exact ⟨[], s.encBuf ++ [b], false, fun u hu => by rw [encPush_of_room hb (hu ▸ hlen), hu, List.append_nil]⟩

/-- ENC.END reads the encoder's registers and the parameter (R93). -/
theorem encEnd_uniform (s : State) : ∃ bs, ∀ u : State, u.encBuf = s.encBuf → u.encFull = s.encFull → u.params = s.params →
    encEnd u = { u with tx := u.tx ++ bs, encBuf := [], encFull := false } := by
  by_cases h : s.encFull = true ∧ s.params.cobsTrail254 = false
  · exact ⟨[], fun u _ hfull hparams => by rw [encEnd_of_nothing_owed (by rwa [hfull, hparams]), List.append_nil]⟩
  · exact ⟨closedBlock s.encBuf, fun u hbuf hfull hparams => by
      rw [encEnd_of_block_owed (by rwa [hfull, hparams]), hbuf]; rfl⟩

/-- FRM.PUSH reads what its two parts read (R121). -/
theorem frmPush_uniform (b : Byte) (s : State) : ∃ bs buf full, ∀ u : State, u.encBuf = s.encBuf →
    frmPush b u = { u with crc := crc16Update u.crc b, tx := u.tx ++ bs, encBuf := buf, encFull := full } := by
  obtain ⟨bs, buf, full, hpush⟩ := encPush_uniform b s
  exact ⟨bs, buf, full, fun u hu => by rw [frmPush, hpush (crcUpd b u) hu]; rfl⟩

/-- FRM.END reads `crc` and what its parts read (R122). -/
theorem frmEnd_uniform (s : State) : ∃ bs, ∀ u : State, u.crc = s.crc → u.encBuf = s.encBuf → u.encFull = s.encFull →
    u.params = s.params → frmEnd u = { u with crc := 0x0000#16, tx := u.tx ++ bs, encBuf := [], encFull := false } := by
  obtain ⟨bs, buf, full, hhigh⟩ := encPush_uniform (crcHigh s.crc) s
  obtain ⟨cs, buf', full', hlow⟩ := encPush_uniform (crcLow s.crc) { s with encBuf := buf, encFull := full }
  obtain ⟨ds, hend⟩ := encEnd_uniform { s with encBuf := buf', encFull := full' }
  refine ⟨bs ++ cs ++ ds ++ [delimiter], fun u hcrc hbuf hfull hparams => ?_⟩
  rw [frmEnd, hcrc, hhigh u hbuf, hlow, hend _ _ _ ?hparams]
  · simp only [encDelim, State.txEmit, crcClr, crcInit, List.append_assoc]
  case hparams => exact hparams
  all_goals rfl

/-- DEC.PUSH reads the decoder's registers alone, appends at most one item to `rx` and sets at most DECTRUNC (R102). -/
theorem decPush_uniform (e : Byte) (s : State) : ∃ items rem zero mid m, items.length ≤ 1 ∧ ∀ u : State,
    u.decRem = s.decRem → u.decZero = s.decZero → u.decMid = s.decMid →
    decPush e u = { u with rx := u.rx ++ items, decRem := rem, decZero := zero, decMid := mid, status := u.status ||| m } := by
  by_cases he : e = 0x00#8
  · subst he
    by_cases hmid : s.decMid = false
    · exact ⟨[.endFrame .empty], 0#8, false, false, 0#4, Nat.le_refl 1, fun u _ _ hu => by
        rw [decPush_delimiter_of_between_frames (hu.trans hmid), BitVec.or_zero]; rfl⟩
    rw [Bool.not_eq_false] at hmid
    by_cases hrem : s.decRem = 0#8
    · exact ⟨[.endFrame .ok], 0#8, false, false, 0#4, Nat.le_refl 1, fun u hr _ hu => by
        rw [decPush_delimiter_of_block_complete (hu.trans hmid) (hr.trans hrem), BitVec.or_zero]; rfl⟩
    · exact ⟨[.endFrame .trunc], 0#8, false, false, 1#4 <<< 3, Nat.le_refl 1, fun u hr _ hu => by
        rw [decPush_delimiter_of_block_open (hu.trans hmid) (hr ▸ hrem)]; rfl⟩
  by_cases hrem : s.decRem = 0#8
  · refine ⟨if s.decZero then [.byte 0x00#8] else [], e - 1#8, e != 0xFF#8, true, 0#4, ?_, fun u hr hz _ => ?_⟩
    · split <;> simp
    · rw [decPush_code he (hr.trans hrem), hz, BitVec.or_zero]; rfl
  · exact ⟨[.byte e], s.decRem - 1#8, s.decZero, s.decMid, 0#4, Nat.le_refl 1, fun u hr hz hu => by
      rw [decPush_data he (hr ▸ hrem), hr, ← hz, ← hu, BitVec.or_zero]; rfl⟩

/-! What is written and never read: STATUS, `iw_now`, the histories; and the samples, which IW.POLL and IW.WAIT alone read -/

/-- A command other than RESET, REG.RD, IW.POLL and IW.WAIT sets the same STATUS bits and appends the same to the histories whatever
these, the last sample and the samples to come are, and does everything else alike (R31, R32, R37, R38, R57); `g` is what becomes
of the last sample. -/
theorem exec_of_unread_unsampled {i : Instr} {s t : State} (hreset : i ≠ .reset) (hreg : ∀ idx, i ≠ .regRd idx)
    (hpoll : i ≠ .iwPoll) (hwait : i ≠ .iwWait) (h : Runs i s t) :
    ∃ (m : BitVec 4) (bs : List Byte) (items : List RxItem) (g : Word → Word), items.length ≤ 1 ∧ ∀ v now tx rx ws n,
      exec i { s with status := v, iwNow := now, tx := tx, rx := rx, timeIn := ws, draws := n } = .next
        { t with status := v ||| m, iwNow := g now, tx := tx ++ bs, rx := rx ++ items, timeIn := ws, draws := n } := by
  cases h
  case reset | iwPollUnconfigured | iwPoll | iwWaitUnconfigured | iwWait => contradiction
  case regRd | regRdReserved => exact absurd rfl (hreg _)
  case encPush b =>
    obtain ⟨bs, buf, full, hpush⟩ := encPush_uniform b s
    exact ⟨0#4, bs, [], id, Nat.zero_le 1, fun v now tx rx ws n => by
      rw [exec_encPush, hpush, hpush s rfl, BitVec.or_zero, List.append_nil] <;> rfl⟩
  case encEnd =>
    obtain ⟨bs, hend⟩ := encEnd_uniform s
    exact ⟨0#4, bs, [], id, Nat.zero_le 1, fun v now tx rx ws n => by
      rw [exec_encEnd, hend, hend s rfl rfl rfl, BitVec.or_zero, List.append_nil] <;> rfl⟩
  case encDelim =>
    exact ⟨0#4, [delimiter], [], id, Nat.zero_le 1, fun v now tx rx ws n => by rw [BitVec.or_zero, List.append_nil]; rfl⟩
  case frmPush b =>
    obtain ⟨bs, buf, full, hpush⟩ := frmPush_uniform b s
    exact ⟨0#4, bs, [], id, Nat.zero_le 1, fun v now tx rx ws n => by
      rw [exec_frmPush, hpush, hpush s rfl, BitVec.or_zero, List.append_nil] <;> rfl⟩
  case frmEnd =>
    obtain ⟨bs, hend⟩ := frmEnd_uniform s
    exact ⟨0#4, bs, [], id, Nat.zero_le 1, fun v now tx rx ws n => by
      rw [exec_frmEnd, hend, hend s rfl rfl rfl rfl, BitVec.or_zero, List.append_nil] <;> rfl⟩
  case decPush e =>
    obtain ⟨items, rem, zero, mid, m, hlen, hpush⟩ := decPush_uniform e s
    exact ⟨m, [], items, id, hlen, fun v now tx rx ws n => by
      rw [exec_decPush, hpush, hpush s rfl rfl rfl, List.append_nil] <;> rfl⟩
  case iwCfgZero =>
    exact ⟨1#4 <<< 1, [], [], id, Nat.zero_le 1, fun v now tx rx ws n => by rw [List.append_nil, List.append_nil]; rfl⟩
  case iwCfg w h =>
    exact ⟨0#4, [], [], fun _ => 0#32, Nat.zero_le 1, fun v now tx rx ws n => by
      rw [BitVec.or_zero, List.append_nil, List.append_nil]; exact exec_iwCfg_of_ne_zero _ h⟩
  case nop | crcClr | crcUpd | crcRd =>
    exact ⟨0#4, [], [], id, Nat.zero_le 1, fun v now tx rx ws n => by
      rw [BitVec.or_zero, List.append_nil, List.append_nil]; rfl⟩

/-- What the unread fields of a state are when it is written out with them. -/
theorem unread_fields_of_eq {t : State} {v : BitVec 4} {now : Word} {tx : List Byte} {rx : List RxItem} {ws : List Word} {n : Nat}
    (h : t = { t with status := v, iwNow := now, tx := tx, rx := rx, timeIn := ws, draws := n }) :
    t.status = v ∧ t.iwNow = now ∧ t.tx = tx ∧ t.rx = rx ∧ t.timeIn = ws ∧ t.draws = n := by
  rw [h]
  exact ⟨rfl, rfl, rfl, rfl, rfl, rfl⟩

/-- Settles O9: samples are in the frame of IW.POLL and IW.WAIT, and no other command reads them, REG.RD having no view of them. -/
theorem onlyPollAndWaitReadTheClock : Obligations.OnlyPollAndWaitReadTheClock := by
  unfold Obligations.OnlyPollAndWaitReadTheClock
  intro i s t hexec
  have h := (exec_next_iff i s t).1 hexec
  obtain ⟨hcmds, hparams, htime, hdraws⟩ := runs_environment h
  refine ⟨hcmds, hparams, htime, hdraws, fun hpoll hwait => ?_⟩
  by_cases hreset : i = .reset
  · subst hreset
    cases h
    exact ⟨rfl, rfl, fun _ _ => rfl⟩
  by_cases hreg : ∃ idx, i = .regRd idx
  · obtain ⟨idx, rfl⟩ := hreg
    cases h
    case regRd h => exact ⟨rfl, rfl, fun _ _ => exec_regRd_of_view h⟩
    case regRdReserved h => exact ⟨rfl, rfl, fun _ _ => exec_regRd_of_reserved h⟩
  obtain ⟨m, bs, items, g, -, hall⟩ := exec_of_unread_unsampled hreset (not_exists.1 hreg) hpoll hwait h
  have hself := hexec.symm.trans (hall s.status s.iwNow s.tx s.rx s.timeIn s.draws)
  obtain ⟨hstatus, hnow, htx, hrx, htimeIn, hdraws⟩ := unread_fields_of_eq (Host.Outcome.next.inj hself)
  refine ⟨htimeIn, hdraws, fun ws n => ?_⟩
  have hrun := hall s.status s.iwNow s.tx s.rx ws n
  rwa [← hnow, ← hstatus, ← htx, ← hrx] at hrun

/-- A poll overwrites the last sample, and reads neither it nor STATUS nor the histories (R31, R134). -/
theorem waitRounds_of_unread (n : Nat) {s t : State} (h : waitRounds n s = .next t) :
    ∃ g : Word → Word, ∀ v now tx rx, waitRounds n { s with status := v, iwNow := now, tx := tx, rx := rx } =
      .next { t with status := v, iwNow := g now, tx := tx, rx := rx } := by
  induction n generalizing s with
  | zero => exact ⟨id, fun v now tx rx => by cases (State.hold_next _ _).1 h; rfl⟩
  | succ n ih =>
    rw [waitRounds] at h
    by_cases htick : pollTick s = true
    · rw [if_pos htick] at h
      cases (State.result_next _ _ _).1 h
      exact ⟨fun _ => s.nextSample, fun v now tx rx => if_pos htick⟩
    · rw [if_neg htick] at h
      obtain ⟨g, hg⟩ := ih h
      exact ⟨fun _ => g s.nextSample, fun v now tx rx => (if_neg htick).trans (hg v s.nextSample tx rx)⟩

/-- The same for IW.POLL and IW.WAIT too, with the samples as they are. -/
theorem exec_of_unread {i : Instr} {s t : State} (hreset : i ≠ .reset) (hreg : ∀ idx, i ≠ .regRd idx) (h : Runs i s t) :
    ∃ (m : BitVec 4) (bs : List Byte) (items : List RxItem) (g : Word → Word), items.length ≤ 1 ∧ ∀ v now tx rx,
      exec i { s with status := v, iwNow := now, tx := tx, rx := rx } =
        .next { t with status := v ||| m, iwNow := g now, tx := tx ++ bs, rx := rx ++ items } := by
  by_cases hclock : i = .iwPoll ∨ i = .iwWait
  · cases h
    case iwPollUnconfigured h =>
      exact ⟨1#4 <<< 2, [], [], id, Nat.zero_le 1, fun v now tx rx => by
        rw [List.append_nil, List.append_nil]; exact exec_iwPoll_of_unconfigured h⟩
    case iwPoll h =>
      exact ⟨0#4, [], [], fun _ => s.nextSample, Nat.zero_le 1, fun v now tx rx => by
        rw [BitVec.or_zero, List.append_nil, List.append_nil]; exact exec_iwPoll_of_configured h⟩
    case iwWaitUnconfigured h =>
      exact ⟨1#4 <<< 2, [], [], id, Nat.zero_le 1, fun v now tx rx => by
        rw [List.append_nil, List.append_nil]; exact exec_iwWait_of_unconfigured h⟩
    case iwWait h hw =>
      obtain ⟨g, hwait⟩ := waitRounds_of_unread _ hw
      refine ⟨0#4, [], [], g, Nat.zero_le 1, fun v now tx rx => ?_⟩
      rw [BitVec.or_zero, List.append_nil, List.append_nil]
      exact (exec_iwWait_of_configured (by exact h)).trans (hwait v now tx rx)
    all_goals simp at hclock
  · obtain ⟨hpoll, hwait⟩ := not_or.1 hclock
    obtain ⟨-, -, -, -, hunsampled⟩ := onlyPollAndWaitReadTheClock i s t (exec_of_runs h)
    obtain ⟨htimeIn, hdraws, -⟩ := hunsampled hpoll hwait
    obtain ⟨m, bs, items, g, hlen, hall⟩ := exec_of_unread_unsampled hreset hreg hpoll hwait h
    refine ⟨m, bs, items, g, hlen, fun v now tx rx => ?_⟩
    rw [hall v now tx rx s.timeIn s.draws, ← htimeIn, ← hdraws]

/-- The same with what the command did to the four in the state it ran in. -/
theorem exec_unread_fields {i : Instr} {s t : State} (hreset : i ≠ .reset) (hreg : ∀ idx, i ≠ .regRd idx) (h : Runs i s t) :
    ∃ (m : BitVec 4) (bs : List Byte) (items : List RxItem) (g : Word → Word), items.length ≤ 1 ∧
      t.status = s.status ||| m ∧ t.iwNow = g s.iwNow ∧ t.tx = s.tx ++ bs ∧ t.rx = s.rx ++ items ∧ ∀ v now tx rx,
      exec i { s with status := v, iwNow := now, tx := tx, rx := rx } =
        .next { t with status := v ||| m, iwNow := g now, tx := tx ++ bs, rx := rx ++ items } := by
  obtain ⟨m, bs, items, g, hlen, hall⟩ := exec_of_unread hreset hreg h
  have hself := (exec_of_runs h).symm.trans (hall s.status s.iwNow s.tx s.rx)
  obtain ⟨hstatus, hnow, htx, hrx, -⟩ := unread_fields_of_eq (ws := t.timeIn) (n := t.draws) (Host.Outcome.next.inj hself)
  exact ⟨m, bs, items, g, hlen, hstatus, hnow, htx, hrx, hall⟩

/-! The views of REG.RD that the unread parts have no share in -/

theorem regView_of_status {idx : Byte} (hidx : idx ≠ 0#8) (s : State) (v : BitVec 4) :
    State.regView idx { s with status := v } = s.regView idx := by
  unfold State.regView
  split
  · contradiction
  all_goals rfl

theorem regView_of_iwNow {idx : Byte} (hidx : idx ≠ 6#8) (s : State) (now : Word) :
    State.regView idx { s with iwNow := now } = s.regView idx := by
  unfold State.regView
  split
  case h_7 => contradiction
  all_goals rfl

/-- Settles O15: STATUS is unread but by its own view, which the index leaves out. -/
theorem statusGatesNoCommand : Obligations.StatusGatesNoCommand := by
  unfold Obligations.StatusGatesNoCommand
  intro i s t v hreset hview hexec
  have h := (exec_next_iff i s t).1 hexec
  by_cases hreg : ∃ idx, i = .regRd idx
  · obtain ⟨idx, rfl⟩ := hreg
    have hsame := regView_of_status (fun hidx => hview (congrArg Instr.regRd hidx)) s v
    cases h
    case regRd h =>
      refine ⟨0#4, BitVec.or_zero.symm, ?_⟩
      rw [BitVec.or_zero]
      exact exec_regRd_of_view (hsame.trans h)
    case regRdReserved h => exact ⟨1#4 <<< 0, rfl, exec_regRd_of_reserved (hsame.trans h)⟩
  · obtain ⟨m, bs, items, g, -, hstatus, hnow, htx, hrx, hall⟩ := exec_unread_fields hreset (not_exists.1 hreg) h
    refine ⟨m, hstatus, ?_⟩
    have hrun := hall v s.iwNow s.tx s.rx
    rwa [← hnow, ← htx, ← hrx] at hrun

/-- Settles O16: `iw_now` is unread but by its own view, which the index leaves out. -/
theorem lastSampleInfluencesNothing : Obligations.LastSampleInfluencesNothing := by
  unfold Obligations.LastSampleInfluencesNothing
  intro i s t v hview hexec
  have h := (exec_next_iff i s t).1 hexec
  by_cases hreset : i = .reset
  · subst hreset
    cases h
    exact ⟨0#32, rfl⟩
  by_cases hreg : ∃ idx, i = .regRd idx
  · obtain ⟨idx, rfl⟩ := hreg
    have hsame := regView_of_iwNow (fun hidx => hview (congrArg Instr.regRd hidx)) s v
    cases h
    case regRd h => exact ⟨v, exec_regRd_of_view (hsame.trans h)⟩
    case regRdReserved h => exact ⟨v, exec_regRd_of_reserved (hsame.trans h)⟩
  · obtain ⟨m, bs, items, g, -, hstatus, -, htx, hrx, hall⟩ := exec_unread_fields hreset (not_exists.1 hreg) h
    refine ⟨g v, ?_⟩
    have hrun := hall s.status v s.tx s.rx
    rwa [← hstatus, ← htx, ← hrx] at hrun

/-- Settles O17: no command but RESET reads the histories; REG.RD has no view of them. -/
theorem historiesAreNeverRead : Obligations.HistoriesAreNeverRead := by
  unfold Obligations.HistoriesAreNeverRead
  intro i s t tx' rx' hreset hexec
  have h := (exec_next_iff i s t).1 hexec
  by_cases hreg : ∃ idx, i = .regRd idx
  · obtain ⟨idx, rfl⟩ := hreg
    refine ⟨[], [], ?_⟩
    simp only [List.append_nil]
    cases h
    case regRd h => exact ⟨rfl, rfl, Nat.zero_le 1, exec_regRd_of_view h⟩
    case regRdReserved h => exact ⟨rfl, rfl, Nat.zero_le 1, exec_regRd_of_reserved h⟩
  · obtain ⟨m, bs, items, g, hlen, hstatus, hnow, htx, hrx, hall⟩ := exec_unread_fields hreset (not_exists.1 hreg) h
    refine ⟨bs, items, htx, hrx, hlen, ?_⟩
    have hrun := hall s.status s.iwNow tx' rx'
    rwa [← hstatus, ← hnow] at hrun

/-! The content of the buffer -/

/-- The views of REG.RD see the number of buffered bytes alone (R40, R42). -/
theorem regView_of_encBuf (idx : Byte) (s : State) {b : List Byte} (hlen : b.length = s.encBuf.length) :
    State.regView idx { s with encBuf := b } = s.regView idx := by
  have hcnt : State.encCnt { s with encBuf := b } = s.encCnt := congrArg (BitVec.ofNat 8) hlen
  unfold State.regView State.encst
  rw [hcnt]
  rfl

theorem waitRounds_of_encBuf (n : Nat) (b : List Byte) {s t : State} (h : waitRounds n s = .next t) :
    waitRounds n { s with encBuf := b } = .next { t with encBuf := b } := by
  induction n generalizing s with
  | zero => cases (State.hold_next _ _).1 h; rfl
  | succ n ih =>
    rw [waitRounds] at h
    by_cases htick : pollTick s = true
    · rw [if_pos htick] at h
      cases (State.result_next _ _ _).1 h
      exact if_pos htick
    · rw [if_neg htick] at h
      exact (if_neg htick).trans (ih h)

/-- Settles O18: of the commands left, REG.RD alone looks at the buffer, and sees its length. -/
theorem bufferContentIsHidden : Obligations.BufferContentIsHidden := by
  unfold Obligations.BufferContentIsHidden
  intro i s t b henc hreset hlen hexec
  cases (exec_next_iff i s t).1 hexec
  case reset => contradiction
  case encPush | encEnd | encDelim | frmPush | frmEnd => contradiction
  case regRd h => exact exec_regRd_of_view ((regView_of_encBuf _ s hlen).trans h)
  case regRdReserved h => exact exec_regRd_of_reserved ((regView_of_encBuf _ s hlen).trans h)
  case decPush e =>
    obtain ⟨items, rem, zero, mid, m, -, hpush⟩ := decPush_uniform e s
    rw [exec_decPush, hpush, hpush s rfl rfl rfl] <;> rfl
  case iwCfg h => exact exec_iwCfg_of_ne_zero _ h
  case iwPollUnconfigured h => exact exec_iwPoll_of_unconfigured h
  case iwPoll h => exact exec_iwPoll_of_configured h
  case iwWaitUnconfigured h => exact exec_iwWait_of_unconfigured h
  case iwWait h hw => exact (exec_iwWait_of_configured (by exact h)).trans (waitRounds_of_encBuf _ b hw)
  all_goals rfl

end Sys2Proof.Machine
end

section
/-! Proofs about who writes what (10_state.md R22 to R38), the STATUS conditions (60_exceptions.md R155) and the invariants
(10_state.md R43). -/

namespace Sys2Proof.Machine

/-! Writers -/

/-- Settles O13: the frame of each state change, and of the polls of a wait. -/
theorem registersChangeOnlyByTheirWriters : Obligations.RegistersChangeOnlyByTheirWriters := by
  unfold Obligations.RegistersChangeOnlyByTheirWriters
  intro i s t hexec hreset
  cases (exec_next_iff i s t).1 hexec
  case reset => contradiction
  case iwWait h hw =>
    obtain ⟨-, k, hframe⟩ := waitRounds_frame hw
    rw [State.ext_iff] at hframe
    obtain ⟨hcrc, hbuf, hfull, hrem, hzero, hmid, hinterval, -, -, -, htx, hrx, -⟩ := hframe
    exact ⟨fun _ => hcrc, fun _ => ⟨hbuf, hfull⟩, fun _ => htx, fun _ => ⟨hrem, hzero, hmid, hrx⟩, nofun,
      fun _ => hinterval, fun h0 => hinterval.symm.trans h0⟩
  case iwCfg w h => simp [usesIw, h]
  all_goals simp [usesCrc, usesEnc, usesDec, usesIw]

/-! STATUS -/

/-- DECTRUNC is set by a delimiter inside a block and by nothing else (R36, R102). -/
theorem decPush_status (e : Byte) (s : State) :
    (decPush e s).status = s.status ||| if e = 0#8 ∧ s.decMid = true ∧ s.decRem ≠ 0#8 then 8#4 else 0#4 := by
  by_cases he : e = 0x00#8
  · subst he
    by_cases hmid : s.decMid = false
    · simp [decPush_delimiter_of_between_frames hmid, hmid]
    rw [Bool.not_eq_false] at hmid
    by_cases hrem : s.decRem = 0#8
    · simp [decPush_delimiter_of_block_complete hmid hrem, hrem]
    · simp [decPush_delimiter_of_block_open hmid hrem, hmid, hrem, setStatus, errCode]
  by_cases hrem : s.decRem = 0#8
  · simp [decPush_code he hrem, he]
  · simp [decPush_data he hrem, he]

/-- Settles O14: the three commands that set a bit by their branches; every other leaves STATUS in its frame. -/
theorem statusBitsAreSetOnlyByTheirConditions : Obligations.StatusBitsAreSetOnlyByTheirConditions := by
  unfold Obligations.StatusBitsAreSetOnlyByTheirConditions
  intro i s t hwf hexec hreset
  cases (exec_next_iff i s t).1 hexec
  case reset => contradiction
  case regRdReserved idx h =>
    have hidx := (regView_eq_none_iff idx s).1 h
    simp only [Instr.wellFormed, decide_eq_true_eq] at hwf
    omega
  case decPush e => simp [decPush_status]
  case iwCfgZero => simp [setStatus, errCode]
  case iwCfg h => simp [h]
  case iwPollUnconfigured h | iwWaitUnconfigured h => simp [h, setStatus, errCode]
  case iwPoll h => simp [h]
  case iwWait h hw =>
    obtain ⟨k, hk⟩ := waitRounds_next hw
    obtain ⟨hframe, -⟩ := polls_frame k s
    have hstatus : (polls k s).status = s.status := by rw [hframe]
    rcases hk with rfl | rfl <;> simp [h, hstatus]
  all_goals simp

/-! What only grows -/

theorem and_or_self_eq (v m : BitVec 4) : v &&& (v ||| m) = v := by
  ext k hk
  simpa using Or.inl

/-- A command other than RESET clears no STATUS bit and takes nothing back (R43 (h), (i)). -/
theorem runs_grow {i : Instr} {s t : State} (hreset : i ≠ .reset) (h : Runs i s t) :
    s.status &&& t.status = s.status ∧ s.tx <+: t.tx ∧ s.rx <+: t.rx := by
  by_cases hreg : ∃ idx, i = .regRd idx
  · obtain ⟨idx, rfl⟩ := hreg
    cases h
    case regRd => exact ⟨BitVec.and_self, List.prefix_refl _, List.prefix_refl _⟩
    case regRdReserved => exact ⟨setStatus_sticky _ _, List.prefix_refl _, List.prefix_refl _⟩
  · obtain ⟨m, bs, items, g, -, hstatus, -, htx, hrx, -⟩ := exec_unread_fields hreset (not_exists.1 hreg) h
    rw [hstatus, htx, hrx]
    exact ⟨and_or_self_eq _ _, List.prefix_append _ _, List.prefix_append _ _⟩

/-- Settles O12: a word that decodes to RESET is the word of RESET. -/
theorem statusAndHistoriesOnlyGrow : Obligations.StatusAndHistoriesOnlyGrow := by
  unfold Obligations.StatusAndHistoriesOnlyGrow
  intro s t hstep hword
  rcases step_cases s t hstep with ⟨-, rfl⟩ | ⟨w, rest, r, hcmds, hdecode, rfl⟩ | ⟨w, rest, i, u, hcmds, hdecode, hexec, rfl⟩
  · exact ⟨BitVec.and_self, List.prefix_refl _, List.prefix_refl _⟩
  · simpa using setStatus_sticky .ill s.status
  · have hreset : i ≠ .reset := by
      rintro rfl
      obtain ⟨-, hencode⟩ := encodeOfDecodeIsTheWord w _ hdecode
      rw [hcmds, List.head?_cons, ← hencode] at hword
      exact hword rfl
    simpa using runs_grow hreset ((exec_next_iff i s u).1 hexec)

/-! The invariants of R43 -/

/-- Presenting the next word changes no register. -/
theorem State.advance_encInv (s : State) : s.advance.encInv ↔ s.encInv := by simp [State.encInv]
theorem State.advance_decInv (s : State) : s.advance.decInv ↔ s.decInv := by simp [State.decInv]
theorem State.advance_iwInv (s : State) : s.advance.iwInv ↔ s.iwInv := by simp [State.iwInv]

theorem encPush_encInv {s : State} (b : Byte) (h : s.encInv) : (encPush b s).encInv := by
  obtain ⟨hlen, hnonzero, -⟩ := h
  by_cases hb : b = 0x00#8
  · subst hb; rw [encPush_zero]; simp [State.encInv]
  by_cases hfills : s.encBuf.length + 1 = blockLimit
  · rw [encPush_of_fills hb hfills]; simp [State.encInv]
  · rw [encPush_of_room hb hfills]
    rw [blockLimit] at hfills
    refine ⟨?_, ?_, nofun⟩
    · simp only [List.length_append, List.length_singleton]; omega
    · exact List.forall_mem_append.2 ⟨hnonzero, List.forall_mem_singleton.2 hb⟩

theorem decPush_decInv {s : State} (e : Byte) (h : s.decInv) : (decPush e s).decInv := by
  obtain ⟨hle, hidle, hmid⟩ := h
  by_cases he : e = 0x00#8
  · subst he
    rw [decPush, if_pos rfl]
    simp [State.decInv]
  by_cases hrem : s.decRem = 0#8
  · rw [decPush_code he hrem]
    refine ⟨?_, nofun, fun _ => rfl⟩
    rw [decBegin_decRem]
    bv_omega
  · rw [decPush_data he hrem]
    have hopen := hmid hrem
    refine ⟨?_, fun hclosed => absurd (hopen.symm.trans hclosed) (by decide), fun _ => hopen⟩
    show (s.decRem - 1#8).toNat ≤ 254
    bv_omega

/-- R43 (a) to (g) by the commands that write the registers they speak of; the others leave those alone. -/
theorem runs_inv {i : Instr} {s t : State} (h : Runs i s t) (henc : s.encInv) (hdec : s.decInv) (hiw : s.iwInv) :
    t.encInv ∧ t.decInv ∧ t.iwInv := by
  by_cases hreset : i = .reset
  · subst hreset
    cases h
    simp [State.encInv, State.decInv, State.iwInv]
  obtain ⟨-, hencFrame, -, hdecFrame, hiwFrame, hinterval, hconfigured⟩ :=
    registersChangeOnlyByTheirWriters i s t (exec_of_runs h) hreset
  refine ⟨?enc, ?dec, ?iw⟩
  case enc =>
    by_cases hunit : usesEnc i = false ∨ i = .encDelim
    · obtain ⟨hbuf, hfull⟩ := hencFrame hunit
      rwa [State.encInv, hbuf, hfull]
    cases h
    case encPush b => exact encPush_encInv b henc
    case encEnd => simp [State.encInv]
    case frmPush b => exact encPush_encInv (s := crcUpd b s) b henc
    case frmEnd => simp [State.encInv]
    all_goals simp [usesEnc] at hunit
  case dec =>
    by_cases hunit : usesDec i = false
    · obtain ⟨hrem, hzero, hmid, -⟩ := hdecFrame hunit
      rwa [State.decInv, hrem, hzero, hmid]
    cases h
    case decPush e => exact decPush_decInv e hdec
    all_goals simp [usesDec] at hunit
  case iw =>
    intro h0
    obtain ⟨hdeadline, hnow⟩ := hiw (hconfigured h0)
    cases h
    case iwCfg h => exact absurd h0 h
    case iwPoll h => exact absurd h0 h
    case iwWait h _ => exact absurd (hconfigured h0) h
    all_goals simp [hdeadline, hnow]

/-- A command that is held is IW.WAIT of a configured waiter, and its word stays at the port (R136). -/
theorem step_heldInv {s u : State} {w : CmdWord} {rest : List CmdWord} {i : Instr} (hcmds : s.cmds = w :: rest)
    (hdecode : decode w = .ok i) (h : Runs i s u) : u.advance.heldInv := by
  intro hheld
  rw [State.advance_outcome] at hheld
  obtain ⟨hsame, -⟩ := runs_environment h
  rcases runs_outcome h with hdone | ⟨-, hres, rfl, hconfigured⟩ | ⟨-, herr⟩
  · simp [hdone] at hheld
  · obtain ⟨-, -, -, -, -, hinterval, -⟩ := registersChangeOnlyByTheirWriters _ s u (exec_of_runs h) nofun
    obtain ⟨-, hencode⟩ := encodeOfDecodeIsTheWord w _ hdecode
    rw [State.advance_iwInterval, State.advance_res, State.advance_cmds, if_pos hheld, hinterval nofun, hsame, hcmds, hencode]
    exact ⟨hconfigured, hres, rfl⟩
  · simp [hheld] at herr

/-- Settles O10: an illegal word leaves the registers, a command keeps the invariants of those it writes, and only IW.WAIT is
held. -/
theorem everyStepKeepsTheInvariants : Obligations.EveryStepKeepsTheInvariants := by
  unfold Obligations.EveryStepKeepsTheInvariants
  rintro s t ⟨henc, hdec, hiw, hheld⟩ hstep
  rcases step_cases s t hstep with ⟨-, rfl⟩ | ⟨w, rest, r, hcmds, hdecode, rfl⟩ | ⟨w, rest, i, u, hcmds, hdecode, hexec, rfl⟩
  · exact ⟨henc, hdec, hiw, hheld⟩
  · exact ⟨(State.advance_encInv _).2 henc, (State.advance_decInv _).2 hdec, (State.advance_iwInv _).2 hiw,
      by simp [State.heldInv]⟩
  · have h := (exec_next_iff i s u).1 hexec
    obtain ⟨henc', hdec', hiw'⟩ := runs_inv h henc hdec hiw
    exact ⟨(State.advance_encInv _).2 henc', (State.advance_decInv _).2 hdec', (State.advance_iwInv _).2 hiw',
      step_heldInv hcmds hdecode h⟩

/-- Settles O11: the units are idle, the waiter is not configured, and nothing is held. -/
theorem resetMeetsTheInvariants : Obligations.ResetMeetsTheInvariants := by
  unfold Obligations.ResetMeetsTheInvariants
  decide

end Sys2Proof.Machine
end

section
/-! Proofs about IW.POLL and IW.WAIT over several samples, and in true time (44_interval_waiter.md R132, R134, R136, R137). -/

namespace Sys2Proof.Machine

theorem toNat_pos_of_ne_zero {interval : Word} (h : interval ≠ 0#32) : 0 < interval.toNat :=
  Nat.pos_of_ne_zero fun h0 => h (BitVec.eq_of_toNat_eq h0)

/-! The source's loop -/

/-- With passes enough the loop moves the deadline by as many intervals as have elapsed (R132). -/
theorem iwAdvance_eq {interval : Word} (hinterval : interval ≠ 0#32) (now : Word) (fuel : Nat) (deadline : Word)
    (hfuel : elapsed deadline now / interval.toNat ≤ fuel) :
    iwAdvance interval now fuel deadline =
      BitVec.ofNat 32 (deadline.toNat + elapsed deadline now / interval.toNat * interval.toNat) := by
  have hpos := toNat_pos_of_ne_zero hinterval
  induction fuel generalizing deadline with
  | zero => rw [Nat.le_zero.1 hfuel, Nat.zero_mul, Nat.add_zero, BitVec.ofNat_toNat, BitVec.setWidth_eq]; rfl
  | succ fuel ih =>
    rw [iwAdvance]
    split
    case isTrue hle =>
      have hquot : elapsed deadline now / interval.toNat = (elapsed deadline now - interval.toNat) / interval.toNat + 1 :=
        Nat.div_eq_sub_div hpos hle
      have hleft : elapsed (deadline + interval) now = elapsed deadline now - interval.toNat := by
        rw [← elapsed_deadline_sum hle, BitVec.ofNat_add, BitVec.ofNat_toNat, BitVec.ofNat_toNat, BitVec.setWidth_eq,
          BitVec.setWidth_eq]
      rw [ih (deadline + interval) (by rw [hleft]; omega), hleft, hquot, deadline_sum_eq_add_mul, deadline_sum_eq_add_mul,
        BitVec.ofNat_add, BitVec.add_mul, BitVec.add_assoc, BitVec.add_comm interval]
      simp
    case isFalse hlt =>
      rw [Nat.div_eq_of_lt (Nat.lt_of_not_le hlt), Nat.zero_mul, Nat.add_zero, BitVec.ofNat_toNat, BitVec.setWidth_eq]

/-- Settles O54: where a boundary has passed the loop moves the deadline as the closed form does. -/
theorem closedFormEqualsTheSourcesLoop : Obligations.ClosedFormEqualsTheSourcesLoop := by
  unfold Obligations.ClosedFormEqualsTheSourcesLoop
  intro interval deadline now fuel hinterval hfuel
  rw [iwLoop]
  split
  case isTrue hle => rw [iwNext_of_le _ _ _ hle, iwAdvance_eq hinterval now fuel deadline hfuel]
  case isFalse hlt => exact (iwNext_of_lt _ _ _ (Nat.lt_of_not_le hlt)).symm

/-! A second poll -/

/-- Settles O55: after a poll less than an interval is left to its sample, so the same sample brings no tick. -/
theorem aSecondPollAtTheSameTimeGivesNoTick : Obligations.ASecondPollAtTheSameTimeGivesNoTick := by
  unfold Obligations.ASecondPollAtTheSameTimeGivesNoTick
  intro s t hinterval hexec hsame
  rw [exec_iwPoll_of_configured hinterval, State.result_next] at hexec
  have hnow : t.iwNow = s.nextSample := by rw [hexec]; rfl
  have hdeadline : t.iwDeadline = (iwNext s.iwInterval s.iwDeadline s.nextSample).2 := by rw [hexec]; rfl
  have hinterval' : t.iwInterval = s.iwInterval := by rw [hexec]; rfl
  have hleft : elapsed t.iwDeadline s.nextSample < t.iwInterval.toNat := by
    rw [hdeadline, hinterval', elapsed_iwNext]
    exact Nat.mod_lt _ (toNat_pos_of_ne_zero hinterval)
  rw [exec_iwPoll_of_iwNext (by rwa [hinterval']) hsame (iwNext_of_lt _ _ _ hleft), ← hnow]
  rfl

/-! The rounds of IW.WAIT, by the next sample -/

theorem pollTick_eq_true_iff (s : State) : pollTick s = true ↔ s.iwInterval.toNat ≤ elapsed s.iwDeadline s.nextSample := by
  rw [pollTick, iwNext_tick, decide_eq_true_iff]

/-- A sample short of the boundary is used up, and the next round goes on with what is left (R136). -/
theorem waitRounds_of_short {s : State} {now : Word} (n : Nat) (hnow : s.nextSample = now)
    (hshort : (now - s.iwDeadline).toNat < s.iwInterval.toNat) :
    waitRounds (n + 1) s = waitRounds n { s.takeSample with iwNow := now } := by
  subst hnow
  rw [waitRounds, if_neg (fun htick => absurd ((pollTick_eq_true_iff s).1 htick) (Nat.not_le.2 hshort)), pollState,
    iwNext_of_lt _ _ _ hshort]
  rfl

/-- A sample that reaches the boundary ends the wait as it ends a poll (R136). -/
theorem waitRounds_of_reached {s : State} (n : Nat) (hinterval : s.iwInterval ≠ 0#32)
    (hreached : s.iwInterval.toNat ≤ (s.nextSample - s.iwDeadline).toNat) : waitRounds (n + 1) s = exec .iwPoll s := by
  have htick := (pollTick_eq_true_iff s).2 hreached
  rw [waitRounds, if_pos htick, exec_iwPoll_of_configured hinterval, if_pos htick]

/-- Listed samples short of the boundary are used up one by one (R136). -/
theorem waitRounds_of_listed_short {s : State} {before after : List Word} (n : Nat) (hlisted : s.timeIn = before ++ after)
    (hshort : ∀ w ∈ before, (w - s.iwDeadline).toNat < s.iwInterval.toNat) :
    waitRounds (before.length + n) s = waitRounds n { s with timeIn := after, iwNow := before.getLastD s.iwNow } := by
  induction before generalizing s with
  | nil => rw [List.length_nil, Nat.zero_add, ← (by simpa using hlisted : s.timeIn = after)]; rfl
  | cons w before ih =>
    obtain ⟨hw, hrest⟩ := List.forall_mem_cons.1 hshort
    have hfirst : s.nextSample = w := s.nextSample_listed w _ hlisted
    rw [List.length_cons, Nat.add_right_comm, waitRounds_of_short _ hfirst hw,
      ih (s := { s.takeSample with iwNow := w }) (by rw [State.takeSample_timeIn, hlisted]; rfl) hrest,
      List.getLastD_cons]
    simp [State.takeSample, hlisted]

/-- Settles O57: the samples before the first that ticks are used up, and that one is polled. -/
theorem waitIsThePollOfItsFirstTickingSample : Obligations.WaitIsThePollOfItsFirstTickingSample := by
  unfold Obligations.WaitIsThePollOfItsFirstTickingSample
  intro s before after now hinterval hlisted hshort hreached
  have hrounds : max 1 s.timeIn.length = before.length + (after.length + 1) := by
    rw [hlisted, List.length_append, List.length_cons]; omega
  have hpoll : ∀ last, exec .iwPoll { s with timeIn := now :: after, iwNow := last } = .next
      { s with
        timeIn := after, iwNow := now,
        iwDeadline := BitVec.ofNat 32
          (s.iwDeadline.toNat + (now - s.iwDeadline).toNat / s.iwInterval.toNat * s.iwInterval.toNat),
        res := some 1#32, outcome := .done } :=
    fun last => exec_iwPoll_of_iwNext (s := { s with timeIn := now :: after, iwNow := last }) hinterval rfl
      (iwNext_of_le _ _ _ hreached)
  have hwait : exec .iwWait s = exec .iwPoll { s with timeIn := now :: after, iwNow := before.getLastD s.iwNow } := by
    rw [exec_iwWait_of_configured hinterval, hrounds, waitRounds_of_listed_short _ hlisted hshort]
    exact waitRounds_of_reached _ hinterval hreached
  exact ⟨hwait.trans ((hpoll _).trans (hpoll s.iwNow).symm), hwait.trans (hpoll _)⟩

/-- Settles O58: every listed sample is used up; where none is listed there is one round. -/
theorem waitIsHeldUntilASampleReachesTheBoundary : Obligations.WaitIsHeldUntilASampleReachesTheBoundary := by
  unfold Obligations.WaitIsHeldUntilASampleReachesTheBoundary
  intro s hinterval
  have hfree : s.timeIn = [] → exec .iwWait s = waitRounds (0 + 1) s := fun hnone => by
    rw [exec_iwWait_of_configured hinterval, hnone]; rfl
  refine ⟨fun w ws hlisted hshort => ?listed, fun hnone hshort => ?short, fun hnone hreached => ?reached⟩
  case listed =>
    have hrounds : max 1 s.timeIn.length = (w :: ws).length + 0 := by
      rw [hlisted, List.length_cons]; omega
    rw [exec_iwWait_of_configured hinterval, hrounds,
      waitRounds_of_listed_short 0 (hlisted.trans (List.append_nil _).symm) hshort, List.getLastD_cons]
    rfl
  case short =>
    rw [hfree hnone, waitRounds_of_short 0 (s.nextSample_free hnone) hshort, waitRounds, State.hold, State.finish,
      State.takeSample, hnone]
    rfl
  case reached =>
    rw [hfree hnone]
    exact waitRounds_of_reached 0 hinterval (by rwa [s.nextSample_free hnone])

/-! True time -/

/-- Of two true times less than 2^32 apart the words tell the distance (R57, R137). -/
theorem elapsed_shown {a b : Nat} (hab : a ≤ b) (hlt : b - a < 2 ^ 32) : elapsed (shown a) (shown b) = b - a := by
  simp only [elapsed, shown, BitVec.toNat_sub, BitVec.toNat_ofNat]
  omega

theorem boundary_self (g period : Nat) : boundary g period g = g := by simp [boundary]

theorem boundary_le {g t : Nat} (period : Nat) (hg : g ≤ t) : boundary g period t ≤ t := by
  have := Nat.div_mul_le_self (t - g) period
  rw [boundary]
  omega

/-- From a boundary the next ones are whole periods away (R137). -/
theorem sub_boundary_div (g period a b : Nat) :
    (b - boundary g period a) / period = (b - g) / period - (a - g) / period := by
  rw [boundary, Nat.sub_add_eq, Nat.mul_comm, Nat.sub_mul_div]

theorem boundary_add_whole_periods (g period : Nat) {a b : Nat} (hab : a ≤ b) :
    boundary g period a + (b - boundary g period a) / period * period = boundary g period b := by
  have hmono : (a - g) / period ≤ (b - g) / period := Nat.div_le_div_right (by omega)
  rw [sub_boundary_div g _ a b, boundary, boundary, Nat.add_assoc, ← Nat.add_mul, Nat.add_sub_cancel' hmono]

/-- The tick function in true time: the deadline goes to the last boundary at or before the sample, and there is a tick when that
is a later boundary (R131, R137). -/
theorem iwNext_shown {interval : Word} {g a b : Nat} (hinterval : interval ≠ 0#32) (hg : g ≤ a) (hab : a ≤ b)
    (hlt : b - boundary g interval.toNat a < 2 ^ 32) :
    iwNext interval (shown (boundary g interval.toNat a)) (shown b) =
      (decide ((a - g) / interval.toNat < (b - g) / interval.toNat), shown (boundary g interval.toNat b)) := by
  have hpos := toNat_pos_of_ne_zero hinterval
  have helapsed := elapsed_shown ((boundary_le interval.toNat hg).trans hab) hlt
  have hquot := sub_boundary_div g interval.toNat a b
  rcases Nat.lt_or_ge (b - boundary g interval.toNat a) interval.toNat with hshort | hreached
  · rw [iwNext_of_lt _ _ _ (helapsed ▸ hshort), ← boundary_add_whole_periods g _ hab]
    rw [Nat.div_eq_of_lt hshort] at hquot ⊢
    rw [decide_eq_false (by omega), Nat.zero_mul, Nat.add_zero]
  · have hone : 1 ≤ (b - boundary g interval.toNat a) / interval.toNat := Nat.div_pos hreached hpos
    rw [iwNext_of_le _ _ _ (helapsed ▸ hreached), decide_eq_true (by omega), helapsed, ← boundary_add_whole_periods g _ hab]
    refine congrArg (Prod.mk true) (BitVec.eq_of_toNat_eq ?_)
    simp [shown]

/-- Settles O59: the poll is the tick function in true time. -/
theorem pollInTrueTimeReportsPassedBoundaries : Obligations.PollInTrueTimeReportsPassedBoundaries := by
  unfold Obligations.PollInTrueTimeReportsPassedBoundaries
  intro s g a b hinterval hg hab hdeadline hsample hlt
  have hnext := iwNext_shown hinterval hg hab hlt
  rw [← hdeadline] at hnext
  rw [exec_iwPoll_of_iwNext hinterval hsample hnext]
  simp only [decide_eq_true_eq]

/-- Polls at true times keep the deadline at the last boundary at or before the latest sample (R137). -/
theorem execList_polls_in_true_time {g a : Nat} {ts : List Nat} {rest : List Word} {s : State} (hinterval : s.iwInterval ≠ 0#32)
    (hg : g ≤ a) (hdeadline : s.iwDeadline = shown (boundary g s.iwInterval.toNat a)) (hsamples : s.timeIn = ts.map shown ++ rest)
    (hchain : List.IsChain (fun a b => a ≤ b ∧ b - boundary g s.iwInterval.toNat a < 2 ^ 32) (a :: ts)) :
    ∃ t : State, execList (List.replicate ts.length .iwPoll) s = .next t ∧
      t.iwDeadline = shown (boundary g s.iwInterval.toNat (ts.getLastD a)) ∧ t.timeIn = rest ∧
      (ts ≠ [] → t.iwNow = shown (ts.getLastD a)) := by
  induction ts generalizing s a with
  | nil => exact ⟨s, rfl, hdeadline, hsamples, nofun⟩
  | cons b ts ih =>
    obtain ⟨⟨hab, hlt⟩, hrest⟩ := List.isChain_cons_cons.1 hchain
    have hsample : s.nextSample = shown b := s.nextSample_listed _ _ hsamples
    have hpoll := pollInTrueTimeReportsPassedBoundaries s g a b hinterval hg hab hdeadline hsample hlt
    obtain ⟨t, hrun, htdeadline, htime, hnow⟩ := ih (a := b)
      (s := { s.takeSample with
        iwNow := shown b, iwDeadline := shown (boundary g s.iwInterval.toNat b),
        res := some (if (a - g) / s.iwInterval.toNat < (b - g) / s.iwInterval.toNat then 1#32 else 0#32), outcome := .done })
      hinterval (hg.trans hab) rfl (by rw [State.takeSample_timeIn, hsamples]; rfl) hrest
    rw [List.getLastD_cons]
    refine ⟨t, ?_, htdeadline, htime, fun _ => ?_⟩
    · rw [List.length_cons, List.replicate_succ, execList, hpoll]
      exact hrun
    · by_cases hlast : ts = []
      · subst hlast
        cases hrun
        rfl
      · exact hnow hlast

/-- Settles O60: the first deadline is itself the boundary at which the grid begins. -/
theorem deadlinesStayOnTheGrid : Obligations.DeadlinesStayOnTheGrid := by
  unfold Obligations.DeadlinesStayOnTheGrid
  intro s g ts rest hinterval hdeadline hsamples hchain
  exact execList_polls_in_true_time hinterval (Nat.le_refl g) (by rw [boundary_self, hdeadline]) hsamples hchain

end Sys2Proof.Machine
end

section
/-! Proofs about the CRC function (42_crc16.md R110 to R113, R117). -/

namespace Sys2Proof.Machine

/-! The passes are linear -/

theorem crcShift_eq (c : Half) : crcShift c = (c <<< 1) ^^^ if c.getLsbD 15 then crcPoly else 0#16 := by
  rw [crcShift]
  split
  · rfl
  · rw [BitVec.xor_zero]

theorem crcShift_xor (a b : Half) : crcShift (a ^^^ b) = crcShift a ^^^ crcShift b := by
  have htop : ∀ p q : Bool, (if p ^^ q then crcPoly else 0#16) =
      (if p then crcPoly else 0#16) ^^^ if q then crcPoly else 0#16 := by decide
  rw [crcShift_eq, crcShift_eq, crcShift_eq, BitVec.shiftLeft_xor_distrib, BitVec.getLsbD_xor, htop]
  ac_rfl

theorem crcShifts_xor (n : Nat) (a b : Half) : crcShifts n (a ^^^ b) = crcShifts n a ^^^ crcShifts n b := by
  induction n generalizing a b with
  | zero => rfl
  | succ n ih => rw [crcShifts, crcShift_xor, ih]; rfl

theorem crcShifts_add (m n : Nat) (c : Half) : crcShifts (m + n) c = crcShifts n (crcShifts m c) := by
  induction m generalizing c with
  | zero => rw [Nat.zero_add]; rfl
  | succ m ih => rw [Nat.succ_add]; exact ih (crcShift c)

@[simp] theorem crcShifts_zero (n : Nat) : crcShifts n 0#16 = 0#16 := by
  induction n with
  | zero => rfl
  | succ n ih => exact ih

/-- No register value but zero is shifted to zero: the polynomial has the bit that a shift clears (R110). -/
theorem eq_zero_of_crcShift {c : Half} (h : crcShift c = 0#16) : c = 0#16 := by
  rw [crcShift] at h
  split at h
  case isTrue =>
    have hbit := congrArg (BitVec.getLsbD · 0) h
    simp at hbit
  case isFalse htop =>
    have htop : c.toNat < 2 ^ 15 := by
      rw [← BitVec.msb_eq_getLsbD_last] at htop
      exact BitVec.toNat_lt_of_msb_false (by simpa using htop)
    have hnat := congrArg BitVec.toNat h
    simp only [BitVec.toNat_shiftLeft, BitVec.toNat_ofNat, Nat.shiftLeft_eq] at hnat
    exact BitVec.eq_of_toNat_eq (by simp only [BitVec.toNat_ofNat]; omega)

theorem crcShifts_eq_zero_iff (n : Nat) (c : Half) : crcShifts n c = 0#16 ↔ c = 0#16 := by
  refine ⟨fun h => ?_, fun h => by rw [h, crcShifts_zero]⟩
  induction n generalizing c with
  | zero => exact h
  | succ n ih => exact eq_zero_of_crcShift (ih _ h)

/-- Eight passes move a value of eight bits to the top of the register (R110). -/
theorem crcShifts_byte (b : Byte) : crcShifts 8 (b.setWidth 16) = b.setWidth 16 <<< 8 := by
  revert b
  decide +kernel

/-! The update -/

theorem crc16Update_xor (c d : Half) (a b : Byte) : crc16Update (c ^^^ d) (a ^^^ b) = crc16Update c a ^^^ crc16Update d b := by
  rw [crc16Update, crc16Update, crc16Update, ← crcShifts_xor, BitVec.setWidth_xor, BitVec.shiftLeft_xor_distrib]
  congr 1
  ac_rfl

@[simp] theorem crc16Update_zero : crc16Update 0#16 0#8 = 0#16 := by decide

theorem crc16_append (x y : List Byte) : crc16 (x ++ y) = y.foldl crc16Update (crc16 x) := List.foldl_append

theorem crc16_concat (x : List Byte) (b : Byte) : crc16 (x ++ [b]) = crc16Update (crc16 x) b := crc16_append x [b]

/-- Two bytes in the register, the first at the top. -/
theorem append_eq_xor (h l : Byte) : h ++ l = (h.setWidth 16 <<< 8) ^^^ l.setWidth 16 := by
  ext k hk
  rw [BitVec.getElem_append, BitVec.getElem_xor, BitVec.getElem_shiftLeft, BitVec.getElem_setWidth, BitVec.getElem_setWidth]
  by_cases hlow : k < 8
  · simp [hlow]
  · simp [hlow, BitVec.getLsbD_of_ge l k (by omega), ← BitVec.getLsbD_eq_getElem]

/-- Two updates take two bytes in at the top and make sixteen passes (R110, R117 (c)). -/
theorem crc16Update_crc16Update (c : Half) (h l : Byte) : crc16Update (crc16Update c h) l = crcShifts 16 (c ^^^ (h ++ l)) := by
  rw [crc16Update, crc16Update, ← crcShifts_byte l, ← crcShifts_xor, ← crcShifts_add, append_eq_xor, BitVec.xor_assoc]

/-- Settles O42: the residue is sixteen passes over the difference of the CRC and the two bytes. -/
theorem residueIsZeroExactlyForTheCrc : Obligations.ResidueIsZeroExactlyForTheCrc := by
  unfold Obligations.ResidueIsZeroExactlyForTheCrc
  intro x h l
  have hresidue : crc16 (x ++ [h, l]) = crcShifts 16 (crc16 x ^^^ (h ++ l)) := by
    rw [crc16_append, ← crc16Update_crc16Update]
    rfl
  rw [hresidue, crcShifts_eq_zero_iff, BitVec.xor_eq_zero_iff, eq_comm]

/-- Settles O43: the update is linear in the register and the byte, and takes zero and zero to zero. -/
theorem crcIsLinear : Obligations.CrcIsLinear := by
  unfold Obligations.CrcIsLinear
  refine ⟨fun x y hlen => ?linear, fun n x => ?leading⟩
  case linear =>
    have hfold : ∀ (c d : Half), (List.zipWith (· ^^^ ·) x y).foldl crc16Update (c ^^^ d) =
        x.foldl crc16Update c ^^^ y.foldl crc16Update d := by
      induction x generalizing y with
      | nil =>
        rw [List.length_eq_zero_iff.1 hlen.symm]
        exact fun _ _ => rfl
      | cons a x ih =>
        obtain ⟨b, y, rfl⟩ := List.exists_cons_of_length_eq_add_one hlen.symm
        intro c d
        rw [List.zipWith_cons_cons, List.foldl_cons, crc16Update_xor, ih y (Nat.succ.inj hlen), List.foldl_cons, List.foldl_cons]
    exact hfold 0#16 0#16
  case leading =>
    have hzeros : crc16 (List.replicate n 0x00#8) = 0#16 := by
      induction n with
      | zero => rfl
      | succ n ih => rw [List.replicate_succ', crc16_concat, ih, crc16Update_zero]
    rw [crc16_append, hzeros]
    rfl

/-! The table -/

/-- The table as the spec prints it holds the updates of 0 (R113). -/
theorem crcTable_eq (b : Byte) : crcTable[b.toNat]? = some (crc16Update 0x0000#16 b) := by
  revert b
  decide +kernel

/-- A register is its high byte and its low byte (R58). -/
theorem crcHigh_append_crcLow (c : Half) : crcHigh c ++ crcLow c = c :=
  (BitVec.extractLsb'_append_extractLsb'_eq_extractLsb' rfl).trans BitVec.extractLsb'_eq_self

theorem shiftRight_eq_crcHigh (c : Half) : c >>> 8 = (crcHigh c).setWidth 16 := by
  ext k hk
  by_cases hlow : k < 8
  · simp [crcHigh, hlow]
  · simp [crcHigh, BitVec.getLsbD_of_ge c (8 + k) (by omega)]

/-- Eight passes shift the low byte to the top (R113). -/
theorem shiftLeft_eq_crcShifts (c : Half) : c <<< 8 = crcShifts 8 ((crcLow c).setWidth 16) := by
  rw [crcShifts_byte]
  ext k hk
  by_cases hlow : k < 8
  · simp [hlow]
  · simp [crcLow, hlow, ← BitVec.getLsbD_eq_getElem, show k - 8 < 8 by omega, show k - 8 < 16 by omega]

/-- Settles O39: eight passes over a register are those over its low byte, a shift, and those over its high byte and the byte
that enters, an entry of the table. -/
theorem tableFormEqualsTheEightPasses : Obligations.TableFormEqualsTheEightPasses := by
  unfold Obligations.TableFormEqualsTheEightPasses
  refine ⟨by decide +kernel, crcTable_eq, fun c b => ?_⟩
  have hindex : ((c >>> 8) ^^^ b.setWidth 16).toNat = (crcHigh c ^^^ b).toNat := by
    rw [shiftRight_eq_crcHigh, ← BitVec.setWidth_xor, BitVec.toNat_setWidth_of_le (by decide)]
  rw [crc16TableUpdate, hindex, List.getD_eq_getElem?_getD, crcTable_eq, Option.getD_some, shiftLeft_eq_crcShifts, crc16Update,
    ← crcShifts_xor, crc16Update, BitVec.zero_xor, BitVec.setWidth_xor, BitVec.shiftLeft_xor_distrib]
  conv_rhs => rw [← crcHigh_append_crcLow c, append_eq_xor]
  congr 1
  ac_rfl

/-- Settles O44: the values are evaluated. -/
theorem crcSpotValues : Obligations.CrcSpotValues := by
  unfold Obligations.CrcSpotValues
  decide +kernel

end Sys2Proof.Machine
end

section
/-! Proofs about the CRC's commands in order (42_crc16.md R117 (a)). -/

namespace Sys2Proof.Machine

theorem foldBytes_crcUpd (x : List Byte) (s : State) : foldBytes crcUpd x s = { s with crc := x.foldl crc16Update s.crc } := by
  induction x generalizing s with
  | nil => rfl
  | cons b x ih => rw [foldBytes_cons, ih]; rfl

theorem execList_crcUpds (x : List Byte) (s : State) :
    ∃ t, execList (x.map .crcUpd) s = .next t ∧ t.crc = x.foldl crc16Update s.crc := by
  by_cases hx : x = []
  · subst hx; exact ⟨s, rfl, rfl⟩
  · exact ⟨_, execList_map exec_crcUpd crcUpd_finish hx s, by rw [State.finish_crc, foldBytes_crcUpd]⟩

/-- The CRC's writing commands depend on `crc` alone in what they leave in it (R114, R115). -/
theorem actsOn_crc_of_update {x : List Byte} : ∀ i ∈ .crcClr :: x.map Instr.crcUpd, ActsOn State.crc i := by
  refine List.forall_mem_cons.2 ⟨⟨crcClr, fun s => ⟨none, exec_crcClr s⟩, fun _ _ _ _ _ _ _ => rfl⟩, ?_⟩
  refine List.forall_mem_map.2 fun b _ => ⟨crcUpd b, fun s => ⟨none, exec_crcUpd b s⟩, fun s u _ _ _ _ h => ?_⟩
  exact congrArg (crc16Update · b) h

/-- Settles O40: commands that leave `crc` may stand anywhere, and the updates alone fold the bytes from the cleared register. -/
theorem crcStreamsCrc16 : Obligations.CrcStreamsCrc16 := by
  unfold Obligations.CrcStreamsCrc16
  refine fun s x => ⟨fun prog t hreset hprog hrun hheld => ?program, ?message⟩
  case program =>
    obtain ⟨v, halone, hv⟩ := execList_crcUpds x ((crcClr s).finish .done none)
    rw [← execList_cons_of_done _ (exec_crcClr s), ← hprog] at halone
    have hskip : ∀ i s t, i ≠ .reset → usesCrc i = false → exec i s = .next t → t.crc = s.crc := by
      intro i s t hi huses hexec
      obtain ⟨hcrc, -⟩ := registersChangeOnlyByTheirWriters i s t hexec hi
      exact hcrc (.inl huses)
    rw [view_execList_filter hskip hreset (hprog ▸ actsOn_crc_of_update) rfl hrun hheld halone, hv]
    rfl
  case message =>
    rw [expand, execList_cons_of_done _ (exec_crcClr s),
      execList_map_append_singleton exec_crcUpd crcUpd_finish (fun _ _ _ => rfl), foldBytes_crcUpd, exec_crcRd]
    rfl

end Sys2Proof.Machine
end

section
/-! Proof that the CRC is a polynomial remainder over GF(2) (42_crc16.md R117 (b)). -/

namespace Sys2Proof.Machine

open Polynomial

/-- A word as a polynomial over GF(2), bit `k` the coefficient of `X ^ k`. -/
noncomputable def bitsPoly {n : Nat} (c : BitVec n) : (ZMod 2)[X] :=
  ∑ k ∈ Finset.range n, if c.getLsbD k then X ^ k else 0

/-- G(x), with the x^16 that `POLY` leaves out (R117 (b)). -/
noncomputable def crcGenerator : (ZMod 2)[X] := X ^ 16 + X ^ 8 + X ^ 4 + X ^ 3 + X + 1

/-- A message as a polynomial, bit 7 of its first byte highest. -/
noncomputable def messagePoly (x : List Byte) : (ZMod 2)[X] := x.foldl (fun p b => p * X ^ 8 + bitsPoly b) 0

theorem messagePoly_concat (x : List Byte) (b : Byte) : messagePoly (x ++ [b]) = messagePoly x * X ^ 8 + bitsPoly b :=
  List.foldl_concat _ _ _ _

theorem bitsPoly_xor {n : Nat} (a b : BitVec n) : bitsPoly (a ^^^ b) = bitsPoly a + bitsPoly b := by
  have hbit : ∀ (p q : Bool) (m : (ZMod 2)[X]), (if p ^^ q then m else 0) = (if p then m else 0) + if q then m else 0 := by
    intro p q m
    cases p <;> cases q <;> simp [CharTwo.add_self_eq_zero]
  simp only [bitsPoly, BitVec.getLsbD_xor, hbit, Finset.sum_add_distrib]

/-- A shift multiplies by X, and the bit it loses is the coefficient of X^16. -/
theorem bitsPoly_mul_X (c : Half) : bitsPoly c * X = bitsPoly (c <<< 1) + if c.getLsbD 15 then X ^ 16 else 0 := by
  have hshift : bitsPoly (c <<< 1) = ∑ k ∈ Finset.range 15, if c.getLsbD k then X ^ (k + 1) else 0 := by
    rw [bitsPoly, Finset.sum_range_succ' _ 15]
    refine (congrArg₂ (· + ·) (Finset.sum_congr rfl fun k hk => ?_) (by simp)).trans (add_zero _)
    have hk16 : k + 1 < 16 := Nat.succ_lt_succ (Finset.mem_range.1 hk)
    simp [hk16, BitVec.getLsbD_eq_getElem (show k < 16 by omega)]
  rw [hshift, bitsPoly, Finset.sum_range_succ _ 15, add_mul, Finset.sum_mul]
  simp only [ite_mul, zero_mul, ← pow_succ]

/-- A byte at the top of the register. -/
theorem bitsPoly_setWidth_shiftLeft (b : Byte) : bitsPoly (b.setWidth 16 <<< 8) = bitsPoly b * X ^ 8 := by
  rw [bitsPoly, Finset.sum_range_add _ 8 8, bitsPoly, Finset.sum_mul]
  refine (congrArg₂ (· + ·) (Finset.sum_eq_zero fun k hk => ?_) (Finset.sum_congr rfl fun k hk => ?_)).trans (zero_add _)
  · have hk8 : k < 8 := Finset.mem_range.1 hk
    simp [hk8]
  · have hk8 : k < 8 := Finset.mem_range.1 hk
    simp [← pow_add, Nat.add_comm, show k + 8 < 16 by omega]

theorem bitsPoly_crcPoly : X ^ 16 + bitsPoly crcPoly = crcGenerator := by
  simp [bitsPoly, Finset.sum_range_succ, crcGenerator]
  ring

/-- One pass multiplies by X modulo G (R110). -/
theorem crcGenerator_dvd_crcShift (c : Half) : crcGenerator ∣ bitsPoly c * X - bitsPoly (crcShift c) := by
  rw [bitsPoly_mul_X, crcShift_eq, bitsPoly_xor, CharTwo.sub_eq_add]
  cases c.getLsbD 15
  · simp [bitsPoly, CharTwo.add_self_eq_zero]
  · have hsum : bitsPoly (c <<< 1) + X ^ 16 + (bitsPoly (c <<< 1) + bitsPoly crcPoly) = crcGenerator := by
      rw [← bitsPoly_crcPoly, add_add_add_comm, CharTwo.add_self_eq_zero, zero_add]
    exact dvd_of_eq hsum.symm

theorem crcGenerator_dvd_crcShifts (n : Nat) (c : Half) : crcGenerator ∣ bitsPoly c * X ^ n - bitsPoly (crcShifts n c) := by
  induction n generalizing c with
  | zero => simp [crcShifts]
  | succ n ih =>
    have hsplit : bitsPoly c * X ^ (n + 1) - bitsPoly (crcShifts (n + 1) c) =
        (bitsPoly c * X - bitsPoly (crcShift c)) * X ^ n +
          (bitsPoly (crcShift c) * X ^ n - bitsPoly (crcShifts n (crcShift c))) := by
      rw [crcShifts]; ring
    rw [hsplit]
    exact dvd_add (Dvd.dvd.mul_right (crcGenerator_dvd_crcShift c) _) (ih _)

/-- The register stays congruent to the message so far times X^16 (R117 (b)). -/
theorem crcGenerator_dvd_crc16 (x : List Byte) : crcGenerator ∣ messagePoly x * X ^ 16 - bitsPoly (crc16 x) := by
  induction x using List.reverseRecOn with
  | nil => simp [messagePoly, crc16, bitsPoly]
  | append_singleton x b ih =>
    have hupdate := crcGenerator_dvd_crcShifts 8 (crc16 x ^^^ (b.setWidth 16 <<< 8))
    rw [bitsPoly_xor, bitsPoly_setWidth_shiftLeft] at hupdate
    have hsplit : messagePoly (x ++ [b]) * X ^ 16 - bitsPoly (crc16 (x ++ [b])) =
        (messagePoly x * X ^ 16 - bitsPoly (crc16 x)) * X ^ 8 +
          ((bitsPoly (crc16 x) + bitsPoly b * X ^ 8) * X ^ 8 - bitsPoly (crcShifts 8 (crc16 x ^^^ (b.setWidth 16 <<< 8)))) := by
      rw [messagePoly_concat, crc16_concat, crc16Update]; ring
    rw [hsplit]
    exact dvd_add (Dvd.dvd.mul_right ih _) hupdate

theorem crcGenerator_monic : crcGenerator.Monic := by
  unfold crcGenerator
  monicity!

theorem crcGenerator_degree : crcGenerator.degree = 16 := by
  unfold crcGenerator
  compute_degree!

theorem bitsPoly_degree_lt {n : Nat} (c : BitVec n) : (bitsPoly c).degree < n := by
  refine mem_degreeLT.1 (Submodule.sum_mem _ fun k hk => mem_degreeLT.2 ?_)
  split
  · rw [degree_X_pow]; exact_mod_cast Finset.mem_range.1 hk
  · rw [degree_zero]; exact WithBot.bot_lt_coe n

/-- Settles O41: congruent to it modulo G, and of lower degree. -/
theorem crc16IsThePolynomialRemainder : Obligations.Crc16IsThePolynomialRemainder := by
  unfold Obligations.Crc16IsThePolynomialRemainder
  intro x
  have hmod := modByMonic_eq_of_dvd_sub crcGenerator_monic (crcGenerator_dvd_crc16 x)
  have hself : bitsPoly (crc16 x) %ₘ crcGenerator = bitsPoly (crc16 x) := by
    rw [modByMonic_eq_self_iff crcGenerator_monic, crcGenerator_degree]
    exact bitsPoly_degree_lt _
  exact hmod.trans hself

end Sys2Proof.Machine
end

section
/-! Proofs that the encoder's commands stream the encoding function (40_cobs_encoder.md R95). -/

namespace Sys2Proof.Machine

/-! The encoder's part of the state as the loop of R91 -/

/-- The variables of the loop as the encoder holds them, `tx` being what has left. -/
def State.encLoopView (s : State) : EncLoop := ⟨s.tx, s.encBuf, s.encFull⟩

def State.withEncLoop (v : EncLoop) (s : State) : State := { s with tx := v.out, encBuf := v.blk, encFull := v.full }

/-- ENC.PUSH is the body of the loop (R91, R92). -/
theorem encPush_eq_encLoopStep (b : Byte) (s : State) : encPush b s = s.withEncLoop (encLoopStep s.encLoopView b) := by
  by_cases hb : b = 0x00#8
  · subst hb; rw [encPush_zero, encLoopStep_zero]; rfl
  by_cases hlen : s.encBuf.length + 1 = blockLimit
  · rw [encPush_of_fills hb hlen, encLoopStep_of_fills hb hlen]; rfl
  · rw [encPush_of_room hb hlen, encLoopStep_of_room hb hlen]; rfl

/-- ENC.END is what follows the loop (R91, R93). -/
theorem encEnd_eq_finish (s : State) :
    encEnd s = s.withEncLoop ⟨s.encLoopView.finish s.params.cobsTrail254, [], false⟩ := by
  rw [encEnd, EncLoop.finish]
  split
  case isTrue h => rw [if_pos (by exact h)]; rfl
  case isFalse h => rw [if_neg (by exact h)]; rfl

theorem foldBytes_encPush (x : List Byte) (s : State) :
    foldBytes encPush x s = s.withEncLoop (x.foldl encLoopStep s.encLoopView) := by
  induction x generalizing s with
  | nil => rfl
  | cons b x ih => rw [foldBytes_cons, encPush_eq_encLoopStep, ih]; rfl

/-! What has left before does not matter -/

/-- The loop with bytes before those it has emitted. -/
def EncLoop.after (o : List Byte) (v : EncLoop) : EncLoop := { v with out := o ++ v.out }

theorem encLoopStep_after (o : List Byte) (v : EncLoop) (b : Byte) : encLoopStep (v.after o) b = (encLoopStep v b).after o := by
  by_cases hb : b = 0x00#8
  · subst hb; rw [encLoopStep_zero, encLoopStep_zero]; simp [EncLoop.after]
  by_cases hlen : v.blk.length + 1 = blockLimit
  · rw [encLoopStep_of_fills hb hlen, encLoopStep_of_fills (v := v.after o) hb hlen]; simp [EncLoop.after]
  · rw [encLoopStep_of_room hb hlen, encLoopStep_of_room (v := v.after o) hb hlen]; rfl

theorem foldl_encLoopStep_after (o x : List Byte) (v : EncLoop) :
    x.foldl encLoopStep (v.after o) = (x.foldl encLoopStep v).after o := by
  induction x generalizing v with
  | nil => rfl
  | cons b x ih => rw [List.foldl_cons, encLoopStep_after, ih, List.foldl_cons]

theorem finish_after (trail : Bool) (o : List Byte) (v : EncLoop) : (v.after o).finish trail = o ++ v.finish trail := by
  rw [EncLoop.finish, EncLoop.finish, apply_ite (o ++ ·), ← List.append_assoc]
  rfl

/-- From an idle encoder the pushes and the end append the encoding and leave the encoder idle (R95). -/
theorem encEnd_foldBytes_encPush {s : State} (hidle : s.encIdle) (x : List Byte) :
    encEnd (foldBytes encPush x s) = { s with tx := s.tx ++ cobsEncode s.params.cobsTrail254 x } := by
  obtain ⟨hbuf, hfull⟩ := hidle
  have hstart : s.encLoopView = EncLoop.after s.tx ⟨[], [], false⟩ := by
    rw [State.encLoopView, EncLoop.after, hbuf, hfull, List.append_nil]
  have hview : (foldBytes encPush x s).encLoopView = (encLoop x).after s.tx := by
    rw [foldBytes_encPush, hstart, foldl_encLoopStep_after]
    rfl
  have hparams : (foldBytes encPush x s).params = s.params := by rw [foldBytes_encPush]; rfl
  rw [encEnd_eq_finish, hview, finish_after, hparams, ← cobsEncode_eq_finish, foldBytes_encPush]
  simp [State.withEncLoop, hbuf, hfull]

theorem execList_encMsg {s : State} (hidle : s.encIdle) (x : List Byte) :
    execList (x.map .encPush ++ [.encEnd]) s = .next
      { s with tx := s.tx ++ cobsEncode s.params.cobsTrail254 x, res := none, outcome := .done } := by
  have hlast : ∀ o r u, exec .encEnd (State.finish o r u) = exec .encEnd u := by
    intro o r u
    rw [exec_encEnd, exec_encEnd, encEnd_finish, State.done_finish]
  rw [execList_map_append_singleton exec_encPush encPush_finish hlast, exec_encEnd, encEnd_foldBytes_encPush hidle]
  rfl

/-! Commands of other units in between -/

/-- What the encoder reads and writes. -/
def State.encPart (s : State) : EncLoop × Params := (s.encLoopView, s.params)

theorem encPart_eq_iff (s t : State) :
    s.encPart = t.encPart ↔ s.tx = t.tx ∧ s.encBuf = t.encBuf ∧ s.encFull = t.encFull ∧ s.params = t.params := by
  simp [State.encPart, State.encLoopView, and_assoc]

theorem encPart_of_other_unit {i : Instr} {s t : State} (hi : i ≠ .reset) (huses : usesEnc i = false) (hexec : exec i s = .next t) :
    t.encPart = s.encPart := by
  obtain ⟨-, hregs, htx, -⟩ := registersChangeOnlyByTheirWriters i s t hexec hi
  obtain ⟨hbuf, hfull⟩ := hregs (.inl huses)
  obtain ⟨-, hparams, -⟩ := runs_environment ((exec_next_iff i s t).1 hexec)
  exact (encPart_eq_iff t s).2 ⟨htx huses, hbuf, hfull, hparams⟩

theorem encPart_encPush {s u : State} (b : Byte) (h : s.encPart = u.encPart) : (encPush b s).encPart = (encPush b u).encPart := by
  obtain ⟨hview, hparams⟩ := Prod.mk.inj h
  rw [encPush_eq_encLoopStep, encPush_eq_encLoopStep, hview]
  exact congrArg (Prod.mk _) hparams

theorem encPart_encEnd {s u : State} (h : s.encPart = u.encPart) : (encEnd s).encPart = (encEnd u).encPart := by
  obtain ⟨hview, hparams⟩ := Prod.mk.inj h
  rw [encEnd_eq_finish, encEnd_eq_finish, hview, hparams]
  exact congrArg (Prod.mk _) hparams

theorem actsOn_encPart {x : List Byte} : ∀ i ∈ x.map Instr.encPush ++ [.encEnd], ActsOn State.encPart i := by
  refine List.forall_mem_append.2 ⟨List.forall_mem_map.2 fun b _ => ?push, List.forall_mem_singleton.2 ?last⟩
  case push => exact ⟨encPush b, fun s => ⟨none, exec_encPush b s⟩, fun _ _ _ _ _ _ h => encPart_encPush b h⟩
  case last => exact ⟨encEnd, fun s => ⟨none, exec_encEnd s⟩, fun _ _ _ _ _ _ h => encPart_encEnd h⟩

/-- Settles O27: the pushes and the end run the loop, and no other command touches the encoder's part of the state. -/
theorem encoderStreamsCobsEncode : Obligations.EncoderStreamsCobsEncode := by
  unfold Obligations.EncoderStreamsCobsEncode
  refine fun s x hidle => ⟨fun prog t hreset hprog hrun hheld => ?program, execList_encMsg hidle x⟩
  have halone := execList_encMsg hidle x
  rw [← hprog] at halone
  have hpart := view_execList_filter (fun _ _ _ => encPart_of_other_unit) hreset (hprog ▸ actsOn_encPart) rfl hrun hheld halone
  obtain ⟨htx, hbuf, hfull, -⟩ := (encPart_eq_iff _ _).1 hpart
  obtain ⟨hbuf', hfull'⟩ := hidle
  exact ⟨htx, hbuf.trans hbuf', hfull.trans hfull'⟩

end Sys2Proof.Machine
end

section
/-! Proofs that the decoder's command streams the decoding function (41_cobs_decoder.md R103, R104). -/

namespace Sys2Proof.Machine

/-- The state with what the loop of R101 has given on `rx` and its variables in the decoder's registers, inside a frame. -/
def State.withDecLoop (v : DecLoop) (s : State) : State :=
  { s with rx := s.rx ++ v.out.map .byte, decRem := v.rem, decZero := v.zero, decMid := true }

/-- Inside a frame DEC.PUSH of a byte is the body of the loop (R101, R102). -/
theorem decPush_withDecLoop {e : Byte} (he : e ≠ 0x00#8) (v : DecLoop) (s : State) :
    decPush e (s.withDecLoop v) = s.withDecLoop (decLoopStep v e) := by
  by_cases hrem : v.rem = 0#8
  · rw [decPush_code he hrem, decLoopStep_code e hrem]
    cases v with
    | mk out rem zero => cases zero <;> simp [State.withDecLoop, decBegin, List.append_assoc]
  · rw [decPush_data he hrem, decLoopStep_data e hrem]
    simp [State.withDecLoop, State.rxByte, State.rxEmit]

/-- An idle decoder takes the first byte of a frame as the loop does (R101, R102). -/
theorem decPush_of_idle {s : State} (hidle : s.decIdle) {e : Byte} (he : e ≠ 0x00#8) :
    decPush e s = s.withDecLoop (decLoopStep ⟨[], 0#8, false⟩ e) := by
  obtain ⟨hrem, hzero, -⟩ := hidle
  rw [decPush_code he hrem, decLoopStep_code e rfl, hzero]
  simp [State.withDecLoop, decBegin]

theorem foldBytes_decPush_withDecLoop {x : List Byte} (hx : 0x00#8 ∉ x) (v : DecLoop) (s : State) :
    foldBytes decPush x (s.withDecLoop v) = s.withDecLoop (x.foldl decLoopStep v) := by
  induction x generalizing v with
  | nil => rfl
  | cons e x ih =>
    obtain ⟨he, hx⟩ := not_or.1 (List.mem_cons.not.1 hx)
    rw [foldBytes_cons, decPush_withDecLoop (Ne.symm he), ih hx, List.foldl_cons]

/-- The items a frame and its delimiter give (R103 (a)). -/
def frameItems (x : List Byte) : List RxItem := (cobsDecode x).1.map .byte ++ [.endFrame (cobsDecode x).2]

/-- From an idle decoder a frame and its delimiter give the frame's items, leave the decoder idle, and set DECTRUNC if the frame is
truncated (R102, R103 (a)). -/
theorem foldBytes_decPush_frame {s : State} (hidle : s.decIdle) {x : List Byte} (hx : 0x00#8 ∉ x) :
    foldBytes decPush (x ++ [0x00#8]) s =
      { s with rx := s.rx ++ frameItems x,
               status := if (cobsDecode x).2 = .trunc then setStatus .dectrunc s.status else s.status } := by
  obtain ⟨hrem, hzero, hmid⟩ := hidle
  rw [foldBytes_append, foldBytes_cons, foldBytes_nil]
  cases x with
  | nil =>
    rw [foldBytes_nil, decPush_delimiter_of_between_frames hmid]
    simp [State.ext_iff, hrem, hzero, hmid, frameItems, cobsDecode, decLoop]
  | cons e x =>
    obtain ⟨he, hx⟩ := not_or.1 (List.mem_cons.not.1 hx)
    have hloop : foldBytes decPush (e :: x) s = s.withDecLoop (decLoop (e :: x)) := by
      rw [foldBytes_cons, decPush_of_idle ⟨hrem, hzero, hmid⟩ (Ne.symm he), foldBytes_decPush_withDecLoop hx]
      rfl
    rw [hloop]
    by_cases hend : (decLoop (e :: x)).rem = 0#8
    · rw [decPush_delimiter_of_block_complete rfl hend]
      simp [State.ext_iff, State.withDecLoop, hrem, hzero, hmid, frameItems, cobsDecode, hend]
    · rw [decPush_delimiter_of_block_open rfl hend]
      simp [State.ext_iff, State.withDecLoop, hrem, hzero, hmid, frameItems, cobsDecode, hend]

theorem decPush_finish (e : Byte) (o : CmdOutcome) (r : Option Word) (s : State) :
    decPush e (s.finish o r) = (decPush e s).finish o r := by
  obtain ⟨items, rem, zero, mid, m, -, hpush⟩ := decPush_uniform e s
  rw [hpush, hpush s rfl rfl rfl] <;> rfl

/-- DEC.PUSH of any bytes (R60). -/
theorem execList_decPushes {x : List Byte} (hx : x ≠ []) (s : State) :
    execList (x.map .decPush) s = (foldBytes decPush x s).done :=
  execList_map exec_decPush decPush_finish hx s

/-! Commands of other units in between -/

/-- What the decoder reads and writes. -/
def State.decPart (s : State) : List RxItem × Byte × Bool × Bool := (s.rx, s.decRem, s.decZero, s.decMid)

theorem decPart_eq_iff (s t : State) :
    s.decPart = t.decPart ↔ s.rx = t.rx ∧ s.decRem = t.decRem ∧ s.decZero = t.decZero ∧ s.decMid = t.decMid := by
  simp [State.decPart]

theorem decPart_of_other_unit {i : Instr} {s t : State} (hi : i ≠ .reset) (huses : usesDec i = false) (hexec : exec i s = .next t) :
    t.decPart = s.decPart := by
  obtain ⟨-, -, -, hregs, -⟩ := registersChangeOnlyByTheirWriters i s t hexec hi
  obtain ⟨hrem, hzero, hmid, hrx⟩ := hregs huses
  exact (decPart_eq_iff t s).2 ⟨hrx, hrem, hzero, hmid⟩

theorem actsOn_decPart (e : Byte) : ActsOn State.decPart (.decPush e) := by
  refine ⟨decPush e, fun s => ⟨none, exec_decPush e s⟩, fun s u _ _ _ _ h => ?_⟩
  obtain ⟨hrx, hrem, hzero, hmid⟩ := (decPart_eq_iff s u).1 h
  obtain ⟨items, rem, zero, mid, m, -, hpush⟩ := decPush_uniform e u
  rw [hpush s hrem hzero hmid, hpush u rfl rfl rfl]
  exact congrArg (fun rx => (rx ++ items, rem, zero, mid)) hrx

theorem map_decPush_append_delimiter (x : List Byte) :
    x.map Instr.decPush ++ [.decPush 0x00#8] = (x ++ [0x00#8]).map .decPush := by
  rw [List.map_append, List.map_singleton]

/-- Settles O33: the frame's bytes run the loop, and no other command touches the decoder's part of the state. -/
theorem decoderStreamsCobsDecode : Obligations.DecoderStreamsCobsDecode := by
  unfold Obligations.DecoderStreamsCobsDecode
  intro s x hidle hx
  have halone := execList_decPushes (x := x ++ [0x00#8]) (List.concat_ne_nil _ _) s
  rw [foldBytes_decPush_frame hidle hx] at halone
  refine ⟨fun prog t hreset hprog hrun hheld => ?program, ?message⟩
  case program =>
    rw [map_decPush_append_delimiter] at hprog
    rw [← hprog] at halone
    have hacts : ∀ i ∈ prog.filter usesDec, ActsOn State.decPart i := by
      rw [hprog]
      exact List.forall_mem_map.2 fun e _ => actsOn_decPart e
    have hpart := view_execList_filter (fun _ _ _ => decPart_of_other_unit) hreset hacts rfl hrun hheld halone
    obtain ⟨hrx, hrem, hzero, hmid⟩ := (decPart_eq_iff _ _).1 hpart
    obtain ⟨hrem', hzero', hmid'⟩ := hidle
    exact ⟨by rw [List.append_assoc]; exact hrx, hrem.trans hrem', hzero.trans hzero', hmid.trans hmid'⟩
  case message =>
    rw [expand, map_decPush_append_delimiter]
    exact ⟨_, halone⟩

/-! Encodings as frames -/

theorem frameItems_cobsEncode (trail : Bool) (x : List Byte) :
    frameItems (cobsEncode trail x) = x.map .byte ++ [.endFrame .ok] := by
  rw [frameItems, decodeOfCobsEncodeIsTheMessage]

/-- An idle decoder takes the message from its encoding and changes nothing else (R103 (b)). -/
theorem foldBytes_decPush_cobsEncode {s : State} (hidle : s.decIdle) (trail : Bool) (x : List Byte) :
    foldBytes decPush (cobsEncode trail x ++ [0x00#8]) s = { s with rx := s.rx ++ (x.map .byte ++ [.endFrame .ok]) } := by
  rw [foldBytes_decPush_frame hidle (encodingHoldsNoZero trail x), frameItems_cobsEncode, decodeOfCobsEncodeIsTheMessage,
    if_neg (by simp)]

/-- Whatever the decoder was doing, a delimiter gives one item and leaves it idle (R102 (f)). -/
theorem decPush_delimiter (s : State) : (decPush 0x00#8 s).decIdle ∧ ∃ st, (decPush 0x00#8 s).rx = s.rx ++ [.endFrame st] := by
  by_cases hmid : s.decMid = false
  · rw [decPush_delimiter_of_between_frames hmid]; exact ⟨⟨rfl, rfl, rfl⟩, _, rfl⟩
  rw [Bool.not_eq_false] at hmid
  by_cases hrem : s.decRem = 0#8
  · rw [decPush_delimiter_of_block_complete hmid hrem]; exact ⟨⟨rfl, rfl, rfl⟩, _, rfl⟩
  · rw [decPush_delimiter_of_block_open hmid hrem]; exact ⟨⟨rfl, rfl, rfl⟩, _, rfl⟩

/-- Settles O36: the first delimiter leaves the decoder idle, and the next frame is an encoding. -/
theorem aGarbledFrameDoesNotAffectTheNext : Obligations.AGarbledFrameDoesNotAffectTheNext := by
  unfold Obligations.AGarbledFrameDoesNotAffectTheNext
  intro s x trail
  obtain ⟨hidle, st, hrx⟩ := decPush_delimiter s
  have hlist : [.decPush 0#8] ++ (cobsEncode trail x).map Instr.decPush ++ [.decPush 0#8] =
      (0x00#8 :: (cobsEncode trail x ++ [0x00#8])).map .decPush := by simp
  rw [hlist, execList_decPushes (List.cons_ne_nil _ _), foldBytes_cons, foldBytes_decPush_cobsEncode hidle]
  exact ⟨_, rfl, st, by simp [hrx], hidle⟩

end Sys2Proof.Machine
end

section
/-! Proofs about the record on its way from the framing commands to a receiver (43_framing.md R123 to R125). -/

namespace Sys2Proof.Machine

/-! FRM.PUSH and FRM.END as the CRC's and the encoder's state changes -/

theorem foldBytes_crcUpd_encPush (b : Byte) (x : List Byte) (s : State) :
    foldBytes crcUpd x (encPush b s) = encPush b (foldBytes crcUpd x s) := by
  induction x generalizing s with
  | nil => rfl
  | cons c x ih => rw [foldBytes_cons, crcUpd_encPush, ih, foldBytes_cons]

/-- The pushes feed the CRC and the encoder apart from each other (R121). -/
theorem foldBytes_frmPush (x : List Byte) (s : State) : foldBytes frmPush x s = foldBytes encPush x (foldBytes crcUpd x s) := by
  induction x generalizing s with
  | nil => rfl
  | cons b x ih => rw [foldBytes_cons, ih, frmPush, foldBytes_crcUpd_encPush]; rfl

/-- FRM.END encodes the two CRC bytes after what was pushed (R122). -/
theorem frmEnd_eq (s : State) :
    frmEnd s = crcClr (encDelim (encEnd (foldBytes encPush [crcHigh s.crc, crcLow s.crc] s))) := rfl

/-- The record is an encoding and a delimiter (R120). -/
theorem frame_eq (trail : Bool) (d : List Byte) : frame trail d = cobsEncode trail (withCrc d) ++ [0x00#8] := rfl

/-- With `crc` zero and the encoder idle the pushes and the end send the record and change nothing else (R125). -/
theorem frmEnd_foldBytes_frmPush {s : State} (hcrc : s.crc = 0x0000#16) (hidle : s.encIdle) (d : List Byte) :
    frmEnd (foldBytes frmPush d s) = { s with tx := s.tx ++ frame s.params.cobsTrail254 d } := by
  have hsent : (foldBytes frmPush d s).crc = crc16 d := by
    have hcommute : foldBytes frmPush d s = foldBytes encPush d { s with crc := crc16 d } := by
      rw [foldBytes_frmPush, foldBytes_crcUpd, hcrc]; rfl
    rw [hcommute, foldBytes_encPush]
    rfl
  have hrecord : foldBytes encPush [crcHigh (crc16 d), crcLow (crc16 d)] (foldBytes frmPush d s) =
      foldBytes encPush (withCrc d) { s with crc := crc16 d } := by
    rw [foldBytes_frmPush, foldBytes_crcUpd, ← foldBytes_append, hcrc]; rfl
  rw [frmEnd_eq, hsent, hrecord, encEnd_foldBytes_encPush (s := { s with crc := crc16 d }) hidle, frame_eq, ← List.append_assoc]
  simp [encDelim, crcClr, hcrc]

theorem frmPush_finish (b : Byte) (o : CmdOutcome) (r : Option Word) (s : State) :
    frmPush b (s.finish o r) = (frmPush b s).finish o r := by
  rw [frmPush, crcUpd_finish, encPush_finish, frmPush]

theorem frmEnd_finish (o : CmdOutcome) (r : Option Word) (s : State) : frmEnd (s.finish o r) = (frmEnd s).finish o r := by
  simp only [frmEnd, State.finish_crc, encPush_finish, encEnd_finish, encDelim_finish, crcClr_finish]

theorem execList_frmMsg {s : State} (hcrc : s.crc = 0x0000#16) (hidle : s.encIdle) (d : List Byte) :
    execList (d.map .frmPush ++ [.frmEnd]) s = .next
      { s with tx := s.tx ++ frame s.params.cobsTrail254 d, res := none, outcome := .done } := by
  have hlast : ∀ o r u, exec .frmEnd (State.finish o r u) = exec .frmEnd u := by
    intro o r u
    rw [exec_frmEnd, exec_frmEnd, frmEnd_finish, State.done_finish]
  rw [execList_map_append_singleton exec_frmPush frmPush_finish hlast, exec_frmEnd, frmEnd_foldBytes_frmPush hcrc hidle]
  rfl

/-! Commands of other units in between -/

/-- What the framing commands read and write. -/
def State.frmPart (s : State) : Half × EncLoop × Params := (s.crc, s.encPart)

theorem frmPart_of_other_unit {i : Instr} {s t : State} (hi : i ≠ .reset) (huses : (usesEnc i || usesCrc i) = false)
    (hexec : exec i s = .next t) : t.frmPart = s.frmPart := by
  obtain ⟨henc, hcrc⟩ := Bool.or_eq_false_iff.1 huses
  obtain ⟨hcrcFrame, -⟩ := registersChangeOnlyByTheirWriters i s t hexec hi
  exact congrArg₂ Prod.mk (hcrcFrame (.inl hcrc)) (encPart_of_other_unit hi henc hexec)

theorem frmPart_encPush {s u : State} (b : Byte) (h : s.frmPart = u.frmPart) : (encPush b s).frmPart = (encPush b u).frmPart := by
  obtain ⟨hcrc, henc⟩ := Prod.mk.inj h
  exact congrArg₂ Prod.mk (by rw [encPush_crc, encPush_crc, hcrc]) (encPart_encPush b henc)

theorem frmPart_frmPush {s u : State} (b : Byte) (h : s.frmPart = u.frmPart) : (frmPush b s).frmPart = (frmPush b u).frmPart := by
  obtain ⟨hcrc, henc⟩ := Prod.mk.inj h
  exact frmPart_encPush b (congrArg₂ Prod.mk (congrArg (crc16Update · b) hcrc) henc)

theorem frmPart_frmEnd {s u : State} (h : s.frmPart = u.frmPart) : (frmEnd s).frmPart = (frmEnd u).frmPart := by
  obtain ⟨hcrc, -⟩ := Prod.mk.inj h
  have hpushes := frmPart_encPush (crcLow u.crc) (frmPart_encPush (crcHigh u.crc) h)
  obtain ⟨-, henc⟩ := Prod.mk.inj hpushes
  have hend := encPart_encEnd henc
  rw [frmEnd, frmEnd, hcrc]
  exact congrArg (fun p : EncLoop × Params => (0x0000#16, EncLoop.mk (p.1.out ++ [delimiter]) p.1.blk p.1.full, p.2)) hend

theorem actsOn_frmPart {d : List Byte} : ∀ i ∈ d.map Instr.frmPush ++ [.frmEnd], ActsOn State.frmPart i := by
  refine List.forall_mem_append.2 ⟨List.forall_mem_map.2 fun b _ => ?push, List.forall_mem_singleton.2 ?last⟩
  case push => exact ⟨frmPush b, fun s => ⟨none, exec_frmPush b s⟩, fun _ _ _ _ _ _ h => frmPart_frmPush b h⟩
  case last => exact ⟨frmEnd, fun s => ⟨none, exec_frmEnd s⟩, fun _ _ _ _ _ _ h => frmPart_frmEnd h⟩

/-- Settles O47: the framing commands send the record, and no other command touches their part of the state. -/
theorem frmCommandsSendTheRecord : Obligations.FrmCommandsSendTheRecord := by
  unfold Obligations.FrmCommandsSendTheRecord
  refine fun s d hcrc hidle => ⟨fun prog t hreset hprog hrun hheld => ?program, execList_frmMsg hcrc hidle d,
    cobsEncode _ (withCrc d), frame_eq _ d, encodingHoldsNoZero _ _⟩
  have halone := execList_frmMsg hcrc hidle d
  rw [← hprog] at halone
  have hpart := view_execList_filter (fun _ _ _ => frmPart_of_other_unit) hreset (hprog ▸ actsOn_frmPart) rfl hrun hheld halone
  obtain ⟨hcrc', henc⟩ := Prod.mk.inj hpart
  obtain ⟨htx, hbuf, hfull, -⟩ := (encPart_eq_iff _ _).1 henc
  obtain ⟨hbuf', hfull'⟩ := hidle
  exact ⟨htx, hcrc'.trans hcrc, hbuf.trans hbuf', hfull.trans hfull'⟩

/-! The receiver -/

/-- A message with its CRC has residue zero (R117 (c), R124). -/
theorem crc16_withCrc (d : List Byte) : crc16 (withCrc d) = 0x0000#16 :=
  (residueIsZeroExactlyForTheCrc d _ _).2 (crcHigh_append_crcLow _)

/-- The items a record gives: the message with its CRC, and `end(OK)` (R124). -/
def recordItems (d : List Byte) : List RxItem := (withCrc d).map .byte ++ [.endFrame .ok]

/-- An idle decoder takes the record and changes nothing but `rx` (R124). -/
theorem foldBytes_decPush_record {s : State} (hidle : s.decIdle) (trail : Bool) (d : List Byte) :
    foldBytes decPush (frame trail d) s = { s with rx := s.rx ++ recordItems d } :=
  foldBytes_decPush_cobsEncode hidle trail (withCrc d)

/-- Settles O48: the record decodes to the message with its CRC, whose residue is zero. -/
theorem aReceiverDecodesAndAcceptsTheRecord : Obligations.AReceiverDecodesAndAcceptsTheRecord := by
  unfold Obligations.AReceiverDecodesAndAcceptsTheRecord
  refine fun s trail d hidle => ⟨?decodes, fun htag => ?accepts⟩
  case decodes =>
    rw [execList_decPushes (x := frame trail d) (List.concat_ne_nil _ _), foldBytes_decPush_record hidle]
    exact ⟨_, rfl, hidle, (List.append_assoc _ _ _).symm⟩
  case accepts =>
    have hlen : 3 ≤ (withCrc d).length := by
      have := List.length_pos_of_ne_nil htag
      rw [withCrc, List.length_append, List.length_cons, List.length_singleton]
      omega
    rw [← withCrc, acceptsRecord, crc16_withCrc, decide_eq_true hlen]
    rfl

/-- Records back to back give their items in order (R123). -/
theorem foldBytes_decPush_records {s : State} (hidle : s.decIdle) (trail : Bool) (ds : List (List Byte)) :
    foldBytes decPush (ds.flatMap (frame trail)) s = { s with rx := s.rx ++ ds.flatMap recordItems } := by
  induction ds generalizing s with
  | nil => rw [List.flatMap_nil, List.flatMap_nil, List.append_nil]; rfl
  | cons d ds ih =>
    rw [List.flatMap_cons, foldBytes_append, foldBytes_decPush_record hidle,
      ih (s := { s with rx := s.rx ++ recordItems d }) hidle, List.flatMap_cons, List.append_assoc]

/-- A frame that ends in OK is one message to the consumer (R104). -/
theorem rxMessagesFrom_frame (cur x : List Byte) (rest : List RxItem) :
    rxMessagesFrom cur (x.map .byte ++ .endFrame .ok :: rest) = (cur ++ x) :: rxMessagesFrom [] rest := by
  induction x generalizing cur with
  | nil => rw [List.append_nil]; rfl
  | cons b x ih => rw [List.map_cons, List.cons_append, rxMessagesFrom, ih, List.append_assoc, List.singleton_append]

theorem rxMessagesFrom_records (ds : List (List Byte)) : rxMessagesFrom [] (ds.flatMap recordItems) = ds.map withCrc := by
  induction ds with
  | nil => rfl
  | cons d ds ih =>
    rw [List.flatMap_cons, recordItems, List.append_assoc, List.singleton_append, rxMessagesFrom_frame, ih, List.nil_append,
      List.map_cons]

/-- Settles O49: the leading zero is an empty frame to an idle decoder, and each record is one message. -/
theorem theStreamYieldsExactlyTheRecordsSent : Obligations.TheStreamYieldsExactlyTheRecordsSent := by
  unfold Obligations.TheStreamYieldsExactlyTheRecordsSent
  intro s trail ds hidle
  refine ⟨.endFrame .empty :: ds.flatMap recordItems, ?_, rfl, rxMessagesFrom_records ds⟩
  obtain ⟨hrem, hzero, hmid⟩ := hidle
  have hopen : decPush 0x00#8 s = { s with rx := s.rx ++ [.endFrame .empty] } := by
    rw [decPush_delimiter_of_between_frames hmid]
    simp [State.ext_iff, hrem, hzero, hmid]
  rw [recordStream, delimiter, execList_decPushes (List.cons_ne_nil _ _), foldBytes_cons, hopen,
    foldBytes_decPush_records (s := { s with rx := s.rx ++ [.endFrame .empty] }) ⟨hrem, hzero, hmid⟩, List.append_assoc, List.singleton_append]
  rfl

end Sys2Proof.Machine
end
